-- ==== Sys2Proof/Word.lean ====
section
/-! DEFINITION. The word types of the core, at the widths of 00_scope.md R8 (log 10), and the channel-count
variant of a PixelBuffer (R7, R93). -/

namespace Sys2Proof

/-- A command word, `cmd_word[31:0]` (30_encoding.md R91). -/
abbrev Word := BitVec 32

/-- A tick count of one bit period, `W_TICK` = 16 (00_scope.md R8). -/
abbrev Tick := BitVec 16

/-- One duty-cycle sample, `W_SAMPLE` = 16 (00_scope.md R8). -/
abbrev Sample := BitVec 16

/-- One entry of the pixel memory: R in bits 7:0, G in 15:8, B in 23:16, W in 31:24 (10_state.md R45). -/
abbrev Pixel := BitVec 32

/-- A channel id: 0 = R, 1 = G, 2 = B, 3 = W (10_state.md R22). -/
abbrev ChannelId := BitVec 2

/-- The channel-count variant of a PixelBuffer: 3 or 4 channels a pixel (00_scope.md R7, R14). -/
inductive Variant where
  | rgb
  | rgbw
  deriving DecidableEq, Repr, Inhabited

end Sys2Proof
end

