-- ==== Sys2Proof/Syntax.lean ====
section
/-! DEFINITION. The instruction set: one constructor per row of spec/opcode_table.json (30_encoding.md R90, R96). -/

namespace Sys2Proof

/-- A command. The operands of NEW do not travel in the word, nor do the pixels of PREPARE and SEND (R95).
`n` is the pixel count `N`, `h` the handle `H`; their ranges are checked by `Instr.wellFormed` (log 12). -/
inductive Instr where
  /-- NEW, format Z (40_config.md R126). -/
  | new
  /-- PREPARE `V, N`, format F (42_buffer_manager.md R162). -/
  | prepare (v : Variant) (n : Nat)
  /-- ARM `H`, format H (43_tx_commands.md R182). -/
  | arm (h : Nat)
  /-- SEND `V, N`, format F (43_tx_commands.md R186). -/
  | send (v : Variant) (n : Nat)
  /-- STATE, format Z (43_tx_commands.md R190). -/
  | state
  /-- CANCEL, format Z (43_tx_commands.md R194). -/
  | cancel
  /-- RESET, format Z (43_tx_commands.md R200). -/
  | reset
  deriving DecidableEq, Repr, Inhabited

end Sys2Proof
end

