-- ==== Sys2Proof/WellFormed.lean ====
section
/-! DEFINITION. Which commands a word can carry: the operand ranges of 30_encoding.md R93, R94. -/

namespace Sys2Proof

/-- `N` fits its 16 bits: "number of pixels, 0 to 65535" (30_encoding.md R93). -/
def countFits (n : Nat) : Bool := decide (n < 65536)

/-- `H` fits its one bit: "the index of the sample buffer, 0 or 1" (30_encoding.md R94). -/
def handleFits (h : Nat) : Bool := decide (h < 2)

/-- The command has an encoding. -/
def Instr.wellFormed : Instr → Bool
  | .new => true
  | .prepare _ n => countFits n
  | .arm h => handleFits h
  | .send _ n => countFits n
  | .state => true
  | .cancel => true
  | .reset => true

end Sys2Proof
end

