-- ==== Sys2Proof/Decode.lean ====
section
/-! DEFINITION. The opcode map (30_encoding.md R96), the decoder, total on every 32-bit word (R97), and the encoder. -/

namespace Sys2Proof

/-- A row of the opcode map: a word `w` selects it when `(w AND mask) == pattern` (30_encoding.md R96). -/
structure OpcodeRow where
  mnemonic : String
  pattern : Word
  mask : Word
  deriving DecidableEq, Repr

/-- The selection test of 30_encoding.md R96. -/
def OpcodeRow.selects (r : OpcodeRow) (w : Word) : Bool := w &&& r.mask == r.pattern

def rowNew : OpcodeRow := ⟨"NEW", 0x10000000#32, 0xFFFFFFFF#32⟩
def rowPrepare : OpcodeRow := ⟨"PREPARE", 0x20000000#32, 0xF7FF0000#32⟩
def rowArm : OpcodeRow := ⟨"ARM", 0x30000000#32, 0xFFFFFFFE#32⟩
def rowSend : OpcodeRow := ⟨"SEND", 0x40000000#32, 0xF7FF0000#32⟩
def rowState : OpcodeRow := ⟨"STATE", 0x50000000#32, 0xFFFFFFFF#32⟩
def rowCancel : OpcodeRow := ⟨"CANCEL", 0x60000000#32, 0xFFFFFFFF#32⟩
def rowReset : OpcodeRow := ⟨"RESET", 0x70000000#32, 0xFFFFFFFF#32⟩

/-- The seven rows of 30_encoding.md R96. -/
def opcodeMap : List OpcodeRow :=
  [rowNew, rowPrepare, rowArm, rowSend, rowState, rowCancel, rowReset]

/-- Field `OP`, bits 31:28, of every format (30_encoding.md R91). -/
def opField (w : Word) : BitVec 4 := w.extractLsb' 28 4

/-- Field `V`, bit 27, of format F: 0 = RGB, 1 = RGBW (30_encoding.md R93, R95). -/
def variantField (w : Word) : Variant := if w.getLsbD 27 then .rgbw else .rgb

/-- Field `N`, bits 15:0, of format F, zero extended, never scaled (30_encoding.md R93, R95). -/
def countField (w : Word) : Nat := (w.extractLsb' 0 16).toNat

/-- Field `H`, bit 0, of format H (30_encoding.md R94, R95). -/
def handleField (w : Word) : Nat := (w.extractLsb' 0 1).toNat

/-- Why a word is illegal (30_encoding.md R97). -/
inductive Illegal where
  /-- Opcodes 0x0 and 0x8 to 0xF. -/
  | unassignedOpcode
  /-- An assigned opcode with a nonzero must-be-zero bit. -/
  | mustBeZero
  deriving DecidableEq, Repr

/-- The opcodes of 30_encoding.md R96, 0x1 to 0x7. -/
def opcodeAssigned (w : Word) : Bool := decide (1 ≤ (opField w).toNat ∧ (opField w).toNat ≤ 7)

/-- The reason a word that matches no row is refused (30_encoding.md R97). -/
def illegalReason (w : Word) : Illegal := if opcodeAssigned w then .mustBeZero else .unassignedOpcode

/-- "every word either selects exactly one command or is illegal" (30_encoding.md R97). -/
def decode (w : Word) : Except Illegal Instr :=
  if rowNew.selects w then .ok .new
  else if rowPrepare.selects w then .ok (.prepare (variantField w) (countField w))
  else if rowArm.selects w then .ok (.arm (handleField w))
  else if rowSend.selects w then .ok (.send (variantField w) (countField w))
  else if rowState.selects w then .ok .state
  else if rowCancel.selects w then .ok .cancel
  else if rowReset.selects w then .ok .reset
  else .error (illegalReason w)

/-- The bit `V` of a variant (30_encoding.md R93). -/
def variantBit : Variant → BitVec 1
  | .rgb => 0#1
  | .rgbw => 1#1

/-- Format Z (30_encoding.md R92): `OP`, then 28 zeros. -/
def formatZ (op : BitVec 4) : Word := op ++ 0#28

/-- Format F (30_encoding.md R93): `OP`, `V`, 11 zeros, `N`. -/
def formatF (op : BitVec 4) (v : Variant) (n : Nat) : Word :=
  op ++ (variantBit v ++ (0#11 ++ BitVec.ofNat 16 n))

/-- Format H (30_encoding.md R94): `OP`, 27 zeros, `H`. -/
def formatH (op : BitVec 4) (h : Nat) : Word := op ++ (0#27 ++ BitVec.ofNat 1 h)

/-- The word of a well-formed command, from the formats of 30_encoding.md R92 to R94 and the opcodes of R96. -/
def encode : Instr → Word
  | .new => formatZ 0x1#4
  | .prepare v n => formatF 0x2#4 v n
  | .arm h => formatH 0x3#4 h
  | .send v n => formatF 0x4#4 v n
  | .state => formatZ 0x5#4
  | .cancel => formatZ 0x6#4
  | .reset => formatZ 0x7#4

/-- The row a command belongs to (30_encoding.md R96). -/
def rowOf : Instr → OpcodeRow
  | .new => rowNew
  | .prepare _ _ => rowPrepare
  | .arm _ => rowArm
  | .send _ _ => rowSend
  | .state => rowState
  | .cancel => rowCancel
  | .reset => rowReset

/-- The command word a table word stands for: its low `nbits` bits, the bits above them zero. -/
def tableWord (nbits w : Nat) : Word := BitVec.ofNat 32 (w % 2 ^ nbits)

/-- What the decoder reads from a table word; `none` where it refuses. A command is presented as one 32-bit
word on `cmd_word`, so there is no byte order to lay it out in (R62, R91). -/
def decodeTableWord (nbits w : Nat) : Option Instr :=
  match decode (tableWord nbits w) with
  | .ok i => some i
  | .error _ => none

end Sys2Proof
end

