-- ==== Sys2Proof/Machine/Ports.lean ====
section
/-! DEFINITION. The interface signals of 10_state.md R49 and R50: the TimingSpec and the `cfg_*` ports, the
response, and the moves the agents and the platform can make (00_scope.md R12, 60_exceptions.md R281). -/

namespace Sys2Proof.Machine

/-- A TimingSpec as presented on the `cfg_*` ports (40_config.md R120); position `k` of `chOrder` is bits
`[2k+1:2k]` (10_state.md R49). -/
structure TimingSpec where
  bitPeriod : Tick
  t0High : Tick
  t1High : Tick
  resetTicks : BitVec 32
  chCount : BitVec 3
  chOrder : BitVec 8
  bitsPerChannel : BitVec 4
  deriving DecidableEq, Repr, Inhabited

/-- The configuration ports sampled by NEW (10_state.md R49, 40_config.md R126). -/
structure CfgPorts where
  spec : TimingSpec
  capPix : BitVec 16
  double : Bool
  deriving DecidableEq, Repr, Inhabited

/-- `rsp_status` (30_encoding.md R100); codes 9 to 15 are never produced. -/
inductive Status where
  | ok
  | errConfig
  | errBufTooSmall
  | errChannelMismatch
  | errBusy
  | errHwFault
  | errNotCancelable
  | errBadHandle
  | errIllegalCmd
  deriving DecidableEq, Repr, Inhabited

/-- The status codes of 30_encoding.md R100. -/
def Status.code : Status → BitVec 4
  | .ok => 0
  | .errConfig => 1
  | .errBufTooSmall => 2
  | .errChannelMismatch => 3
  | .errBusy => 4
  | .errHwFault => 5
  | .errNotCancelable => 6
  | .errBadHandle => 7
  | .errIllegalCmd => 8

/-- One response: `rsp_status` and `rsp_value` with `rsp_valid` = 1 (30_encoding.md R100, R101). -/
structure Response where
  status : Status
  value : BitVec 3
  deriving DecidableEq, Repr, Inhabited

/-- The autonomous steps of the transmission engine, agent ENG (44_engine_steps.md). -/
inductive EngStep where
  | start
  | complete
  | latchTick
  | latchDone
  | fault
  deriving DecidableEq, Repr, Inhabited

/-- The steps of the DMA channel and PWM timer, agent DMA (45_dma_pwm_agent.md). -/
inductive DmaStep where
  | beat
  | tcRaise
  | errRaise
  deriving DecidableEq, Repr, Inhabited

/-- What can happen next: a move of the host, of ENG, of DMA or of the platform (00_scope.md R12, 10_state.md R49). -/
inductive Move where
  /-- HOST: a command word on the command port (`cmd_valid` = 1). -/
  | command (w : Word)
  /-- HOST: PIXWR(`i`, `w`) (20_memory.md R64). -/
  | pixwr (i : BitVec 16) (w : Pixel)
  /-- HOST: SBRD(`b`, `i`) (20_memory.md R66). -/
  | sbrd (b : BitVec 1) (i : BitVec 32)
  /-- HOST: drives the `cfg_*` ports (30_encoding.md R105, line CFG; 70_reset_and_hazards.md R294). -/
  | drive (p : CfgPorts)
  /-- The look-up beside the core drives the TimingSpec of an LED variant onto the ports (40_config.md R121). -/
  | lookup (variant : Nat)
  /-- ENG: one of its steps, taken if enabled. -/
  | eng (e : EngStep)
  /-- DMA: one of its steps, taken if enabled. -/
  | dma (d : DmaStep)
  /-- Platform: the pin `rst`, hardware reset (70_reset_and_hazards.md R290). -/
  | rst
  deriving DecidableEq, Repr, Inhabited

end Sys2Proof.Machine
end

