-- ==== Sys2Proof/Config.lean ====
section
/-! DEFINITION. What an implementation fixes (00_scope.md R8) and the free values the spec leaves open. A free
value is a constant with no body: nothing in Lean can evaluate it. -/

namespace Sys2Proof

/-- `ELEM_SIZE`, bytes of one DMA element (00_scope.md R8; the channel's fixed element size, 10_state.md R39). -/
def Config.elemSize : Nat := 2

/-- `BPC`, the only admitted `bits_per_channel` (00_scope.md R8, 40_config.md R123). -/
def Config.bpc : BitVec 4 := 8#4

/-- `PIX_DEPTH`, entries of the pixel memory (00_scope.md R8). -/
def Config.pixDepth : Nat := 65536

/-- FREE VALUE: the move made when `k` moves have been made and the queue `inbox` is empty (log 2). -/
opaque Config.freeMove (k : Nat) : Machine.Move

/-- FREE VALUE: what move `k` reads from entry `i` of `PIX` when PIXWR has not written it since hardware reset
(20_memory.md R68, 93_implementation_defined.md U6; log 6). -/
opaque Config.freePixel (k i : Nat) : Pixel

/-- FREE VALUE: what move `k` reads from element `i` of `SB[b]` when Encode has not written it since hardware
reset, or when SBRD names an element that does not exist (20_memory.md R66, R68; log 6). -/
opaque Config.freeSample (k b i : Nat) : Sample

/-- FREE VALUE: the line at tick `t` of a period in the interval 70_reset_and_hazards.md R300 leaves open (U12; log 14). -/
opaque Config.freeLine (k t : Nat) : Bool

/-- OPEN PARAMETER `TIMING_TABLE` (00_scope.md R8, 40_config.md R121, D30; log 11). -/
opaque Config.timingTable (variant : Nat) : Machine.TimingSpec

end Sys2Proof
end

