-- ==== Sys2Proof/Machine/State.lean ====
section
/-! DEFINITION. The state of the core: every piece of state of 10_state.md R20, the interface fields of R49 and
R50 a step reads or leaves, the machine right after hardware reset (70_reset_and_hazards.md R291), and the reasons
a step can stop. -/

namespace Sys2Proof.Machine

/-- A memory as (index, element) pairs, indices strictly rising; an element not listed has not been written since
hardware reset (20_memory.md R60, R68; log 6, log 9). -/
abbrev Mem (w : Nat) := List (Nat × BitVec w)

/-- The canonical form: indices strictly rising. Every listed element was written, so equal memories are equal lists. -/
abbrev Mem.Wf {w : Nat} (m : Mem w) : Prop := (m.map Prod.fst).Pairwise (· < ·)

/-- `TX_STATE` (10_state.md R26). -/
inductive TxState where
  | idle
  | arming
  | transferring
  | latching
  | faulted
  deriving DecidableEq, Repr, Inhabited

/-- `SB_OWNER[b]`, the ownership state of a sample buffer (10_state.md R30). -/
inductive Owner where
  | writable
  | prepared
  | inflight
  | unusable
  deriving DecidableEq, Repr, Inhabited

/-- `CH_ORDER[0..3]`: the channel id sent at each wire position (10_state.md R22). -/
structure ChOrder where
  p0 : ChannelId
  p1 : ChannelId
  p2 : ChannelId
  p3 : ChannelId
  deriving DecidableEq, Repr, Inhabited

/-- The configuration registers CFG (10_state.md R22), written together by one successful NEW. -/
structure CfgRegs where
  /-- `CONFIGURED`. -/
  configured : Bool
  /-- `BIT_PERIOD`. -/
  bitPeriod : Tick
  /-- `T0_HIGH`. -/
  t0High : Tick
  /-- `T1_HIGH`. -/
  t1High : Tick
  /-- `RESET_TICKS`. -/
  resetTicks : BitVec 32
  /-- `CH_COUNT`. -/
  chCount : BitVec 3
  /-- `CH_ORDER`. -/
  chOrder : ChOrder
  /-- `BITS_PER_CHANNEL`. -/
  bitsPerChannel : BitVec 4
  /-- `CAP_PIX`. -/
  capPix : BitVec 16
  /-- `DOUBLE`. -/
  double : Bool
  deriving DecidableEq, Repr, Inhabited

/-- One sample buffer: `SB_OWNER[b]` (R30), `SB_LEN[b]` (R31) and the elements `SB[b]` (R46) of 10_state.md. -/
structure SampleBuffer where
  owner : Owner
  len : BitVec 32
  data : Mem 16
  deriving DecidableEq, Repr, Inhabited

/-- The complete state. `cfg` to `wave` are the state of 10_state.md R20; `ports` to `moves` are the model's own
fields for the interface of R49 and R50 and for the free values (log 1, 2, 4, 5, 7). -/
structure State where
  /-- CFG (R22). -/
  cfg : CfgRegs
  /-- `TX_STATE` (R26). -/
  txState : TxState
  /-- `INFLIGHT_VALID` (R27). -/
  inflightValid : Bool
  /-- `INFLIGHT_H` (R27). -/
  inflightH : BitVec 1
  /-- `LATCH_CNT` (R28). -/
  latchCnt : BitVec 32
  /-- `DONE` (R35). -/
  done : Bool
  /-- `SB_OWNER[0]`, `SB_LEN[0]`, `SB[0]` (R30, R31, R46). -/
  sb0 : SampleBuffer
  /-- `SB_OWNER[1]`, `SB_LEN[1]`, `SB[1]`; exists only when `DOUBLE` = 1 (R21). -/
  sb1 : SampleBuffer
  /-- `DMA_SRC` (R36). -/
  dmaSrc : BitVec 1
  /-- `DMA_LEN` (R37). -/
  dmaLen : BitVec 32
  /-- `DMA_IDX` (R38). -/
  dmaIdx : BitVec 32
  /-- `DMA_EN` (R39). -/
  dmaEn : Bool
  /-- `PWM_PERIOD` (R40). -/
  pwmPeriod : Tick
  /-- `PWM_DUTY` (R41). -/
  pwmDuty : Sample
  /-- `PWM_RUN` (R42). -/
  pwmRun : Bool
  /-- `TC_PEND` (R43). -/
  tcPend : Bool
  /-- `ERR_PEND` (R43). -/
  errPend : Bool
  /-- `PIX` (R45). -/
  pix : Mem 32
  /-- `WAVE`, ghost (R48): the duty values delivered since the last successful NEW, oldest first. -/
  wave : List Sample
  /-- Model's field: the `cfg_*` input ports (R49). -/
  ports : CfgPorts
  /-- Model's field: the response of the step just taken; `none` is `rsp_valid` = 0 (R50). -/
  rsp : Option Response
  /-- Model's field: `sb_data` of the step just taken, if it was SBRD (R50). -/
  sbData : Option Sample
  /-- Model's field: the moves to come, next first (R12, R49). -/
  inbox : List Move
  /-- Model's field: how many moves have been taken, the index of the free values. -/
  moves : Nat
  deriving DecidableEq, Repr, Inhabited

/-- Why the machine stops with a fault. -/
inductive Fault where
  /-- Raised by START and BEAT when the DMA channel would fetch an element that does not exist (20_memory.md R61,
  R78). SAFE: no state that meets the spec's invariants (10_state.md R29) reaches it; the model stops where the spec
  gives no value (log 8). -/
  | noSuchElement (buffer index : Nat)
  deriving DecidableEq, Repr

/-- Why an instruction has no meaning. -/
inductive Refusal where
  /-- Raised by an arm of `exec` that has no meaning yet; no arm does. SAFE: the model stops. -/
  | notModelled (mnemonic : String)
  deriving DecidableEq, Repr

/-- CFG after hardware reset: `CONFIGURED` = 0 and every register 0 (70_reset_and_hazards.md R290, R291). -/
def CfgRegs.reset : CfgRegs where
  configured := false
  bitPeriod := 0#16
  t0High := 0#16
  t1High := 0#16
  resetTicks := 0#32
  chCount := 0#3
  chOrder := ⟨0#2, 0#2, 0#2, 0#2⟩
  bitsPerChannel := 0#4
  capPix := 0#16
  double := false

/-- A sample buffer after hardware reset: `WRITABLE`, length 0, contents unspecified (70_reset_and_hazards.md R291). -/
def SampleBuffer.reset : SampleBuffer := ⟨.writable, 0#32, []⟩

/-- The `cfg_*` ports before anything drives them: all 0, a value the model names (log 4). -/
def CfgPorts.reset : CfgPorts where
  spec := ⟨0#16, 0#16, 0#16, 0#32, 0#3, 0#8, 0#4⟩
  capPix := 0#16
  double := false

/-- The machine right after hardware reset (70_reset_and_hazards.md R290, R291). The values of `ports`, `rsp`,
`sbData`, `inbox` and `moves` are the model's (log 2, 4, 5, 7). -/
def State.reset : State where
  cfg := CfgRegs.reset
  txState := .idle
  inflightValid := false
  inflightH := 0#1
  latchCnt := 0#32
  done := false
  sb0 := SampleBuffer.reset
  sb1 := SampleBuffer.reset
  dmaSrc := 0#1
  dmaLen := 0#32
  dmaIdx := 0#32
  dmaEn := false
  pwmPeriod := 0#16
  pwmDuty := 0#16
  pwmRun := false
  tcPend := false
  errPend := false
  pix := []
  wave := []
  ports := CfgPorts.reset
  rsp := none
  sbData := none
  inbox := []
  moves := 0

end Sys2Proof.Machine
end

