-- ==== Sys2Proof/Machine/Ops.lean ====
section
/-! DEFINITION. The named operations over memory and registers: memory read and write, the derived constants of
10_state.md R24, buffer access, the response, ending a command in an error (R11 `raise`, 60_exceptions.md R250), the
hand-over of a buffer to the engine (43_tx_commands.md R182), entering `Faulted` (44_engine_steps.md R216) and the
return from it (43_tx_commands.md R200). -/

namespace Sys2Proof.Machine

/-! ## Memories (20_memory.md R60, R63) -/

/-- `MemRead(space, i)`: one whole element, `none` if nothing has written it since hardware reset. -/
def Mem.read {w : Nat} : Mem w → Nat → Option (BitVec w)
  | [], _ => none
  | (a, v) :: m, i => if a = i then some v else Mem.read m i

/-- `MemWrite(space, i, v)`: one whole element; keeps the indices rising. -/
def Mem.write {w : Nat} : Mem w → Nat → BitVec w → Mem w
  | [], i, v => [(i, v)]
  | (a, u) :: m, i, v =>
    if i < a then (i, v) :: (a, u) :: m
    else if i = a then (i, v) :: m
    else (a, u) :: Mem.write m i v

/-- The elements of `xs` at consecutive indices from `base`. -/
def Mem.fromList {w : Nat} : Nat → List (BitVec w) → Mem w
  | _, [] => []
  | base, x :: xs => (base, x) :: Mem.fromList (base + 1) xs

/-- Writes `xs` to the elements 0, 1, … of `m`; elements past them keep their contents (41_encoder.md R147). -/
def Mem.overlay {w : Nat} (xs : List (BitVec w)) (m : Mem w) : Mem w :=
  Mem.fromList 0 xs ++ m.filter (fun c => decide (xs.length ≤ c.1))

/-! ## Derived configuration constants (10_state.md R24) -/

/-- `ceil(a / b)` for `b > 0` (00_scope.md R10). -/
def ceilDiv (a b : Nat) : Nat := (a + b - 1) / b

/-- `NBUF = 1 + DOUBLE` (10_state.md R21, R24). -/
def CfgRegs.nbuf (c : CfgRegs) : Nat := if c.double then 2 else 1

/-- `BPP = CH_COUNT × BITS_PER_CHANNEL` (10_state.md R24). -/
def CfgRegs.bpp (c : CfgRegs) : Nat := c.chCount.toNat * c.bitsPerChannel.toNat

/-- `RESET_SAMPLES = ceil(RESET_TICKS / BIT_PERIOD)` (10_state.md R24). -/
def CfgRegs.resetSamples (c : CfgRegs) : Nat := ceilDiv c.resetTicks.toNat c.bitPeriod.toNat

/-- `N × BPP + RESET_SAMPLES`: the length of a frame of `n` pixels (10_state.md R31). -/
def CfgRegs.frameLen (c : CfgRegs) (n : Nat) : Nat := n * c.bpp + c.resetSamples

/-- `SB_CAP = CAP_PIX × BPP + RESET_SAMPLES` (10_state.md R24). -/
def CfgRegs.sbCap (c : CfgRegs) : Nat := c.frameLen c.capPix.toNat

/-- `TRAILER_TICKS = RESET_SAMPLES × BIT_PERIOD` (10_state.md R24). -/
def CfgRegs.trailerTicks (c : CfgRegs) : Nat := c.resetSamples * c.bitPeriod.toNat

/-! ## Sample buffers -/

/-- Buffer `b`: 0 is `SB[0]`, any other index `SB[1]`; every caller has `b < NBUF` (10_state.md R21). -/
def State.buffer (s : State) (b : Nat) : SampleBuffer := if b = 0 then s.sb0 else s.sb1

/-- Replaces buffer `b`. -/
def State.setBuffer (s : State) (b : Nat) (x : SampleBuffer) : State :=
  if b = 0 then { s with sb0 := x } else { s with sb1 := x }

/-- `SB_OWNER[b]` (10_state.md R30). -/
def State.owner (s : State) (b : Nat) : Owner := (s.buffer b).owner

/-- `SB_OWNER[b] <- o` (10_state.md R30). -/
def State.setOwner (s : State) (b : Nat) (o : Owner) : State :=
  s.setBuffer b { s.buffer b with owner := o }

/-- `SB_LEN[b]` (10_state.md R31). -/
def State.sbLen (s : State) (b : Nat) : BitVec 32 := (s.buffer b).len

/-- `SB_LEN[b] <- n` (10_state.md R31). -/
def State.setLen (s : State) (b : Nat) (n : BitVec 32) : State :=
  s.setBuffer b { s.buffer b with len := n }

/-! ## Responses and errors -/

/-- `respond st, value v` (30_encoding.md R100, R101). -/
def State.respond (s : State) (st : Status) (v : BitVec 3) : State := { s with rsp := some ⟨st, v⟩ }

/-- `raise st`: the command ends with an error status, value 0, and changes no state (00_scope.md R11, 60_exceptions.md
R250). This is the one way a command takes an exception. -/
def raise (st : Status) (s : State) : Host.Outcome State Fault Refusal := .next (s.respond st 0#3)

/-! ## Handing a buffer to the engine, the fault state, and the return from it -/

/-- The writes of ARM `h`, which are also the arm half of SEND (43_tx_commands.md R182, R186). -/
def State.armBuffer (s : State) (h : Nat) : State :=
  { s.setOwner h .inflight with
    dmaSrc := BitVec.ofNat 1 h
    dmaLen := s.sbLen h
    dmaIdx := 0#32
    inflightValid := true
    inflightH := BitVec.ofNat 1 h
    tcPend := false
    done := false
    txState := .arming }

/-- Entry to `Faulted` (44_engine_steps.md R216, 60_exceptions.md R270): nothing is saved; the channel and the timer
stop, the line goes low, the in-flight buffer becomes `UNUSABLE`. -/
def State.enterFaulted (s : State) : State :=
  { (if s.inflightValid then s.setOwner s.inflightH.toNat .unusable else s) with
    errPend := false
    tcPend := false
    dmaEn := false
    pwmRun := false
    pwmDuty := 0#16
    inflightValid := false
    latchCnt := 0#32
    txState := .faulted }

/-- `SB_OWNER[b] <- WRITABLE` for every `b < NBUF` (43_tx_commands.md R200). -/
def State.releaseAll (s : State) : State :=
  { s with
    sb0 := { s.sb0 with owner := .writable }
    sb1 := if s.cfg.double then { s.sb1 with owner := .writable } else s.sb1 }

/-- The writes of RESET: the only return from `Faulted` (43_tx_commands.md R200, 60_exceptions.md R272). -/
def State.forceIdle (s : State) : State :=
  { s.releaseAll with
    inflightValid := false
    latchCnt := 0#32
    done := false
    dmaEn := false
    pwmRun := false
    pwmDuty := 0#16
    tcPend := false
    errPend := false
    txState := .idle }

end Sys2Proof.Machine
end

