-- ==== Sys2Proof/Machine/Operands.lean ====
section
/-! DEFINITION. The operand forms: the `cfg_*` ports NEW samples (40_config.md R120 to R123), the PixelBuffer
`PIX[0 .. N−1]` of PREPARE and SEND (30_encoding.md R95), the handle of ARM (42_buffer_manager.md R165), and the element
`SB[b][i]` the DMA channel and SBRD read (20_memory.md R66, R78). -/

namespace Sys2Proof.Machine

/-- The channel id at position `k` of the port `cfg_ch_order`, bits `[2k+1:2k]` (10_state.md R49). -/
def TimingSpec.channelAt (t : TimingSpec) (k : Nat) : ChannelId := t.chOrder.extractLsb' (2 * k) 2

/-- `TimingOK`: `0 < t0 < t1 < period`, unsigned (40_config.md R122). -/
def TimingSpec.timingOk (t : TimingSpec) : Bool :=
  decide (0 < t.t0High.toNat ∧ t.t0High.toNat < t.t1High.toNat ∧ t.t1High.toNat < t.bitPeriod.toNat)

/-- `OrderOK`: the ids in use are pairwise distinct and a 3-channel order holds no W (40_config.md R123). -/
def TimingSpec.orderOk (t : TimingSpec) : Bool :=
  let ids := (List.range t.chCount.toNat).map t.channelAt
  decide (ids.Nodup ∧ (t.chCount = 3#3 → (3#2 : ChannelId) ∉ ids))

/-- `ShapeOK` (40_config.md R123). -/
def TimingSpec.shapeOk (t : TimingSpec) : Bool :=
  t.bitsPerChannel == Config.bpc && (t.chCount == 3#3 || t.chCount == 4#3) && t.orderOk

/-- The CFG registers NEW writes from the ports (40_config.md R126). -/
def CfgPorts.toRegs (p : CfgPorts) : CfgRegs where
  configured := true
  bitPeriod := p.spec.bitPeriod
  t0High := p.spec.t0High
  t1High := p.spec.t1High
  resetTicks := p.spec.resetTicks
  chCount := p.spec.chCount
  chOrder := ⟨p.spec.channelAt 0, p.spec.channelAt 1, p.spec.channelAt 2, p.spec.channelAt 3⟩
  bitsPerChannel := p.spec.bitsPerChannel
  capPix := p.capPix
  double := p.double

/-- `PIX[p]` as a command reads it: the entry PIXWR last wrote, or a free value (20_memory.md R68; log 6). -/
def State.pixel (s : State) (p : Nat) : Pixel := (Mem.read s.pix p).getD (Config.freePixel s.moves p)

/-- The PixelBuffer operand `PIX[0 .. n−1]` at the instant of the command (30_encoding.md R95, 20_memory.md R70). -/
def State.pixelBuffer (s : State) (n : Nat) : List Pixel := (List.range n).map s.pixel

/-- The handle names a prepared buffer of the core: `H < NBUF` and `SB_OWNER[H] = PREPARED` (42_buffer_manager.md R165,
43_tx_commands.md R182). -/
def State.handleValid (s : State) (h : Nat) : Bool :=
  decide (h < s.cfg.nbuf ∧ s.owner h = .prepared)

/-- Element `i` of `SB[b]` exists (20_memory.md R61). -/
def State.elementExists (s : State) (b i : Nat) : Bool :=
  s.cfg.configured && decide (b < s.cfg.nbuf ∧ i < s.cfg.sbCap)

/-- `SB[b][i]` of an existing element: what Encode last wrote, or a free value (20_memory.md R68; log 6). -/
def State.sample (s : State) (b i : Nat) : Sample :=
  (Mem.read (s.buffer b).data i).getD (Config.freeSample s.moves b i)

/-- What SBRD answers: `SB[b][i]` if the element exists, else an unspecified value (20_memory.md R66). -/
def State.debugSample (s : State) (b i : Nat) : Sample :=
  if s.elementExists b i then s.sample b i else Config.freeSample s.moves b i

end Sys2Proof.Machine
end

