-- ==== Sys2Proof/Machine/Flags.lean ====
section
/-! DEFINITION. The flags: the numeric encodings of `TX_STATE` and `SB_OWNER` (10_state.md R26, R30), the selection of
a writable buffer (42_buffer_manager.md R161), the delivery of a sample (45_dma_pwm_agent.md R231), the latch
countdown (44_engine_steps.md R212). -/

namespace Sys2Proof.Machine

/-- `TX_STATE`'s encoding (10_state.md R26). -/
def TxState.code : TxState → BitVec 3
  | .idle => 0#3
  | .arming => 1#3
  | .transferring => 2#3
  | .latching => 3#3
  | .faulted => 4#3

/-- `SB_OWNER`'s encoding (10_state.md R30). -/
def Owner.code : Owner → BitVec 2
  | .writable => 0#2
  | .prepared => 1#2
  | .inflight => 2#2
  | .unusable => 3#2

/-- `Writable()`: the least `b < NBUF` with `SB_OWNER[b] = WRITABLE` (42_buffer_manager.md R161). -/
def State.firstWritable (s : State) : Option Nat :=
  (List.range s.cfg.nbuf).find? (fun b => s.owner b == .writable)

/-- Delivers element `i` of the armed buffer: `PWM_DUTY` and `WAVE` take it, `DMA_IDX` is the next index
(44_engine_steps.md R210, 45_dma_pwm_agent.md R231). An element that does not exist faults (log 8). -/
def State.deliver (s : State) (i : BitVec 32) : Host.Outcome State Fault Refusal :=
  if s.elementExists s.dmaSrc.toNat i.toNat then
    let v := s.sample s.dmaSrc.toNat i.toNat
    .next { s with pwmDuty := v, wave := s.wave ++ [v], dmaIdx := i + 1#32 }
  else .fault (.noSuchElement s.dmaSrc.toNat i.toNat)

/-- The countdown COMPLETE loads: `max(0, RESET_TICKS − TRAILER_TICKS)` (44_engine_steps.md R212). -/
def CfgRegs.residualTicks (c : CfgRegs) : BitVec 32 :=
  BitVec.ofNat 32 (c.resetTicks.toNat - c.trailerTicks)

end Sys2Proof.Machine
end

