-- ==== Sys2Proof/Machine/Encoder.lean ====
section
/-! DEFINITION. The bit encoder ENC (41_encoder.md): the function Encode that PREPARE and SEND run. -/

namespace Sys2Proof.Machine

/-- The channel ids on the wire, first position first: `CH_ORDER[0 .. CH_COUNT−1]` (41_encoder.md R144). -/
def CfgRegs.order (c : CfgRegs) : List ChannelId :=
  [c.chOrder.p0, c.chOrder.p1, c.chOrder.p2, c.chOrder.p3].take c.chCount.toNat

/-- Channel `c` of a pixel, `PIX[p][8c+7 : 8c]` (10_state.md R45). -/
def channelByte (px : Pixel) (c : ChannelId) : BitVec 8 := px.extractLsb' (8 * c.toNat) 8

/-- The bits of a channel byte, most significant first (41_encoder.md R144). -/
def byteBits (x : BitVec 8) : List Bool :=
  [x.getLsbD 7, x.getLsbD 6, x.getLsbD 5, x.getLsbD 4, x.getLsbD 3, x.getLsbD 2, x.getLsbD 1, x.getLsbD 0]

/-- The sample of one bit: `T1_HIGH` for 1, `T0_HIGH` for 0 (41_encoder.md R144). -/
def CfgRegs.bitSample (c : CfgRegs) (b : Bool) : Sample := if b then c.t1High else c.t0High

/-- The samples of one pixel: its channels in wire order, each byte most significant bit first (41_encoder.md R144). -/
def CfgRegs.pixelSamples (c : CfgRegs) (px : Pixel) : List Sample :=
  c.order.flatMap fun id => (byteBits (channelByte px id)).map c.bitSample

/-- The trailer: `RESET_SAMPLES` samples of value 0 (41_encoder.md R146). -/
def CfgRegs.trailer (c : CfgRegs) : List Sample := List.replicate c.resetSamples 0#16

/-- The samples of a frame: the pixels in buffer order, then the trailer (41_encoder.md R144, R146). -/
def CfgRegs.frame (c : CfgRegs) (pixels : List Pixel) : List Sample :=
  pixels.flatMap c.pixelSamples ++ c.trailer

/-- Encode's checks, capacity first, then variant; `none` is `OK` (41_encoder.md R141 to R143). -/
def CfgRegs.encodeError (c : CfgRegs) (v : Variant) (n : Nat) : Option Status :=
  if c.sbCap < c.frameLen n then some .errBufTooSmall
  else if decide (v = .rgbw) != decide (c.chCount = 4#3) then some .errChannelMismatch
  else none

/-- Encode's writes on `OK`: the frame of `PIX[0 .. n−1]` into `SB[w][0 .. L−1]`, nothing else (41_encoder.md R140, R147). -/
def State.encodeInto (s : State) (n w : Nat) : State :=
  s.setBuffer w
    { s.buffer w with data := Mem.overlay (s.cfg.frame (s.pixelBuffer n)) (s.buffer w).data }

end Sys2Proof.Machine
end

