-- ==== Sys2Proof/Machine/Configure.lean ====
section
/-! DEFINITION. The command NEW (40_config.md R126). -/

namespace Sys2Proof.Machine

/-- The writes of a successful NEW: CFG from the ports and every register at its initial value; `PIX` and the
contents of the sample buffers are not written (40_config.md R126, 70_reset_and_hazards.md R291). -/
def State.configure (s : State) : State :=
  { s with
    cfg := s.ports.toRegs
    sb0 := { s.sb0 with owner := .writable, len := 0#32 }
    sb1 := if s.ports.double then { s.sb1 with owner := .writable, len := 0#32 } else s.sb1
    txState := .idle
    inflightValid := false
    inflightH := 0#1
    latchCnt := 0#32
    done := false
    dmaSrc := 0#1
    dmaLen := 0#32
    dmaIdx := 0#32
    dmaEn := false
    pwmPeriod := s.ports.spec.bitPeriod
    pwmDuty := 0#16
    pwmRun := false
    tcPend := false
    errPend := false
    wave := [] }

/-- NEW (40_config.md R126). -/
def execNew (s : State) : Host.Outcome State Fault Refusal :=
  if s.cfg.configured then raise .errConfig s
  else if s.ports.capPix = 0#16 then raise .errConfig s
  else if !s.ports.spec.timingOk then raise .errConfig s
  else if !s.ports.spec.shapeOk then raise .errConfig s
  else .next (s.configure.respond .ok 0#3)

end Sys2Proof.Machine
end

