-- ==== Sys2Proof/Machine/BufferManager.lean ====
section
/-! DEFINITION. The transfer buffer manager TBM and the command PREPARE (42_buffer_manager.md). -/

namespace Sys2Proof.Machine

/-- The writes of a successful PREPARE into buffer `w`: the frame, `SB_LEN[w]`, `SB_OWNER[w]` (42_buffer_manager.md R162). -/
def State.prepareFrame (s : State) (n w : Nat) : State :=
  ((s.encodeInto n w).setLen w (BitVec.ofNat 32 (s.cfg.frameLen n))).setOwner w .prepared

/-- PREPARE `V, N` (42_buffer_manager.md R162). -/
def execPrepare (v : Variant) (n : Nat) (s : State) : Host.Outcome State Fault Refusal :=
  if !s.cfg.configured then raise .errConfig s
  else match s.firstWritable with
    | none => raise .errBusy s
    | some w =>
      match s.cfg.encodeError v n with
      | some st => raise st s
      | none => .next ((s.prepareFrame n w).respond .ok (BitVec.ofNat 3 w))

end Sys2Proof.Machine
end

