-- ==== Sys2Proof/Machine/Transmit.lean ====
section
/-! DEFINITION. The commands of the transmission engine: ARM, SEND, STATE, CANCEL, RESET (43_tx_commands.md). -/

namespace Sys2Proof.Machine

/-- ARM `H` (43_tx_commands.md R182). -/
def execArm (h : Nat) (s : State) : Host.Outcome State Fault Refusal :=
  if !s.cfg.configured then raise .errConfig s
  else if s.txState = .faulted then raise .errHwFault s
  else if s.txState ≠ .idle then raise .errBusy s
  else if !s.handleValid h then raise .errBadHandle s
  else .next ((s.armBuffer h).respond .ok 0#3)

/-- SEND `V, N` (43_tx_commands.md R186). -/
def execSend (v : Variant) (n : Nat) (s : State) : Host.Outcome State Fault Refusal :=
  if !s.cfg.configured then raise .errConfig s
  else if s.txState = .faulted then raise .errHwFault s
  else if s.txState ≠ .idle then raise .errBusy s
  else match s.firstWritable with
    | none => raise .errBusy s
    | some w =>
      match s.cfg.encodeError v n with
      | some st => raise st s
      | none => .next (((s.prepareFrame n w).armBuffer w).respond .ok 0#3)

/-- STATE (43_tx_commands.md R190). -/
def execState (s : State) : Host.Outcome State Fault Refusal :=
  if !s.cfg.configured then raise .errConfig s
  else .next (s.respond .ok s.txState.code)

/-- The writes of CANCEL in `Latching` (43_tx_commands.md R194); `DONE` is not changed. -/
def State.cancelLatch (s : State) : State :=
  { s.setOwner s.inflightH.toNat .writable with
    inflightValid := false
    latchCnt := 0#32
    pwmRun := false
    pwmDuty := 0#16
    txState := .idle }

/-- CANCEL (43_tx_commands.md R194). -/
def execCancel (s : State) : Host.Outcome State Fault Refusal :=
  if !s.cfg.configured then raise .errConfig s
  else match s.txState with
    | .idle => .next (s.respond .ok 0#3)
    | .latching => .next (s.cancelLatch.respond .ok 0#3)
    | .arming => raise .errNotCancelable s
    | .transferring => raise .errNotCancelable s
    | .faulted => raise .errNotCancelable s

/-- RESET (43_tx_commands.md R200). -/
def execReset (s : State) : Host.Outcome State Fault Refusal :=
  if !s.cfg.configured then raise .errConfig s
  else .next (s.forceIdle.respond .ok 0#3)

end Sys2Proof.Machine
end

