-- ==== Sys2Proof/Machine/Dispatch.lean ====
section
/-! DEFINITION. The meaning of every command, one arm per constructor of `Instr`. -/

namespace Sys2Proof.Machine

def exec (i : Instr) (s : State) : Host.Outcome State Fault Refusal :=
  match i with
  | .new => Sys2Proof.Machine.execNew s
  | .prepare v n => Sys2Proof.Machine.execPrepare v n s
  | .arm h => Sys2Proof.Machine.execArm h s
  | .send v n => Sys2Proof.Machine.execSend v n s
  | .state => Sys2Proof.Machine.execState s
  | .cancel => Sys2Proof.Machine.execCancel s
  | .reset => Sys2Proof.Machine.execReset s

end Sys2Proof.Machine
end

