-- ==== Sys2Proof/Machine/DmaAgent.lean ====
section
/-! DEFINITION. The DMA channel and PWM timer, agent DMA (45_dma_pwm_agent.md): the enabling condition and the effect
of each of its steps. -/

namespace Sys2Proof.Machine

/-- The enabling conditions (45_dma_pwm_agent.md R231, R232, R233). -/
def DmaStep.enabled (d : DmaStep) (s : State) : Bool :=
  match d with
  | .beat => s.dmaEn && s.pwmRun && decide (s.dmaIdx.toNat < s.dmaLen.toNat)
  | .tcRaise => s.dmaEn && decide (s.dmaIdx = s.dmaLen) && !s.tcPend
  | .errRaise => s.cfg.configured && !s.errPend

/-- BEAT (45_dma_pwm_agent.md R231). -/
def stepBeat (s : State) : Host.Outcome State Fault Refusal := s.deliver s.dmaIdx

/-- TC_RAISE (45_dma_pwm_agent.md R232). -/
def stepTcRaise (s : State) : Host.Outcome State Fault Refusal := .next { s with tcPend := true }

/-- ERR_RAISE (45_dma_pwm_agent.md R233). -/
def stepErrRaise (s : State) : Host.Outcome State Fault Refusal := .next { s with errPend := true }

/-- The effect of a DMA step. -/
def DmaStep.effect (d : DmaStep) (s : State) : Host.Outcome State Fault Refusal :=
  match d with
  | .beat => stepBeat s
  | .tcRaise => stepTcRaise s
  | .errRaise => stepErrRaise s

/-- A step whose condition is false cannot happen (00_scope.md R12): it passes with no change (log 3). -/
def DmaStep.run (d : DmaStep) (s : State) : Host.Outcome State Fault Refusal :=
  if d.enabled s then d.effect s else .next s

end Sys2Proof.Machine
end

