-- ==== Sys2Proof/Machine/Engine.lean ====
section
/-! DEFINITION. The autonomous steps of the transmission engine, agent ENG (44_engine_steps.md): the enabling
condition and the effect of each. -/

namespace Sys2Proof.Machine

/-- The enabling conditions (44_engine_steps.md R210, R212, R214, R215, R216). -/
def EngStep.enabled (e : EngStep) (s : State) : Bool :=
  match e with
  | .start => decide (s.txState = .arming) && !s.errPend
  | .complete => decide (s.txState = .transferring) && s.tcPend && !s.errPend
  | .latchTick => decide (s.txState = .latching ∧ 0 < s.latchCnt.toNat)
  | .latchDone => decide (s.txState = .latching ∧ s.latchCnt = 0#32) && !s.errPend
  | .fault => s.errPend && s.cfg.configured

/-- START (44_engine_steps.md R210, R211): DMA and timer start together, with the first sample if there is one. -/
def stepStart (s : State) : Host.Outcome State Fault Refusal :=
  let s' := { s with dmaEn := true, pwmRun := true, txState := .transferring }
  if s.dmaLen = 0#32 then .next s' else s'.deliver 0#32

/-- COMPLETE (44_engine_steps.md R212). -/
def stepComplete (s : State) : Host.Outcome State Fault Refusal :=
  .next { s with
    tcPend := false
    dmaEn := false
    pwmDuty := 0#16
    latchCnt := s.cfg.residualTicks
    txState := .latching }

/-- LATCH_TICK (44_engine_steps.md R214). -/
def stepLatchTick (s : State) : Host.Outcome State Fault Refusal :=
  .next { s with latchCnt := s.latchCnt - 1#32 }

/-- LATCH_DONE (44_engine_steps.md R215). -/
def stepLatchDone (s : State) : Host.Outcome State Fault Refusal :=
  .next { s.setOwner s.inflightH.toNat .writable with
    inflightValid := false
    pwmRun := false
    done := true
    txState := .idle }

/-- FAULT (44_engine_steps.md R216). -/
def stepFault (s : State) : Host.Outcome State Fault Refusal := .next s.enterFaulted

/-- The effect of an ENG step. -/
def EngStep.effect (e : EngStep) (s : State) : Host.Outcome State Fault Refusal :=
  match e with
  | .start => stepStart s
  | .complete => stepComplete s
  | .latchTick => stepLatchTick s
  | .latchDone => stepLatchDone s
  | .fault => stepFault s

/-- A step whose condition is false cannot happen (00_scope.md R12): it passes with no change (log 3). -/
def EngStep.run (e : EngStep) (s : State) : Host.Outcome State Fault Refusal :=
  if e.enabled s then e.effect s else .next s

end Sys2Proof.Machine
end

