-- ==== Sys2Proof/Machine/HostPorts.lean ====
section
/-! DEFINITION. The host's port operations PIXWR and SBRD (20_memory.md R64, R66), driving the `cfg_*` ports
(10_state.md R49), hardware reset (70_reset_and_hazards.md R290), and the byte view a platform may give the memories
(20_memory.md R62). -/

namespace Sys2Proof.Machine

/-- PIXWR(`i`, `w`): `PIX[i] <- w`, in every state (20_memory.md R64). -/
def State.pixWrite (s : State) (i : BitVec 16) (w : Pixel) : State :=
  { s with pix := Mem.write s.pix i.toNat w }

/-- SBRD(`b`, `i`): puts the sample on `sb_data` and changes no state (20_memory.md R66). -/
def State.sbRead (s : State) (b : BitVec 1) (i : BitVec 32) : State :=
  { s with sbData := some (s.debugSample b.toNat i.toNat) }

/-- The host drives the `cfg_*` ports (10_state.md R49, 70_reset_and_hazards.md R294). -/
def State.drivePorts (s : State) (p : CfgPorts) : State := { s with ports := p }

/-- The look-up outside the core drives a variant's TimingSpec onto the ports (40_config.md R121; log 11). -/
def State.lookupTiming (s : State) (variant : Nat) : State :=
  { s with ports := { s.ports with spec := Config.timingTable variant } }

/-- Hardware reset: every piece of state of 10_state.md R20 at its reset value, memories unspecified, `WAVE` empty
(70_reset_and_hazards.md R290, R291); the inputs stay as the outside drives them (log 21). -/
def State.hardReset (s : State) : State :=
  { State.reset with ports := s.ports, inbox := s.inbox, moves := s.moves }

/-- Byte `j` of an element, bits `[8j+7 : 8j]`: the little-endian mapping of 20_memory.md R62. -/
def elementByte {w : Nat} (v : BitVec w) (j : Nat) : BitVec 8 := v.extractLsb' (8 * j) 8

/-- The byte at offset `a` from the base of `PIX`, if a platform maps it to a byte-addressed bus (20_memory.md R62). -/
def State.pixByte (s : State) (a : Nat) : BitVec 8 := elementByte (s.pixel (a / 4)) (a % 4)

/-- The byte at offset `a` from the base of `SB[b]`, if a platform maps it so (20_memory.md R62); a sample is
`ELEM_SIZE` bytes. -/
def State.sbByte (s : State) (b a : Nat) : BitVec 8 :=
  elementByte (s.debugSample b (a / Config.elemSize)) (a % Config.elemSize)

end Sys2Proof.Machine
end

