-- ==== Sys2Proof/Machine/Perform.lean ====
section
/-! DEFINITION. Which move is next and what it does: the command port, the port operations, the agents' steps and
hardware reset (00_scope.md R12, 60_exceptions.md R281). -/

namespace Sys2Proof.Machine

/-- The next move: the head of the queue, or a free value when the queue is empty (log 1, log 2). -/
def State.nextMove (s : State) : Move :=
  match s.inbox with
  | [] => Config.freeMove s.moves
  | m :: _ => m

/-- The state the move is made in: the move is taken off the queue and the outputs of the step before are gone
(log 5, log 7). -/
def State.takeMove (s : State) : State :=
  { s with inbox := s.inbox.tail, moves := s.moves + 1, rsp := none, sbData := none }

/-- A word on the command port: the command it encodes, or `ERR_ILLEGAL_CMD` with no state change (30_encoding.md R97). -/
def runCommand (w : Word) (s : State) : Host.Outcome State Fault Refusal :=
  match decode w with
  | .ok i => exec i s
  | .error _ => raise .errIllegalCmd s

/-- What a move does. -/
def perform (m : Move) (s : State) : Host.Outcome State Fault Refusal :=
  match m with
  | .command w => runCommand w s
  | .pixwr i w => .next (s.pixWrite i w)
  | .sbrd b i => .next (s.sbRead b i)
  | .drive p => .next (s.drivePorts p)
  | .lookup variant => .next (s.lookupTiming variant)
  | .eng e => e.run s
  | .dma d => d.run s
  | .rst => .next s.hardReset

/-- Places a command word as the very next move. -/
def State.queueCommand (s : State) (w : Word) : State := { s with inbox := .command w :: s.inbox }

end Sys2Proof.Machine
end

