-- ==== Sys2Proof/Machine/Step.lean ====
section
/-! DEFINITION. One step of the machine, and the placing of a command word for the next step. -/

namespace Sys2Proof.Machine

/-- One step: the next move is taken and made, atomically (00_scope.md R12). -/
def step (s : State) : Host.Outcome State Fault Refusal := perform s.nextMove s.takeMove

/-- `s` with the command word on the command port as the next move. -/
def State.withFetchWord (s : State) (nbits w : Nat) : State := s.queueCommand (tableWord nbits w)

end Sys2Proof.Machine
end

