-- ==== Sys2Proof/Machine/Pins.lean ====
section
/-! DEFINITION. The outputs computed from the state: the pins `done` and `fault` (60_exceptions.md R262) and the line
`led_out` (45_dma_pwm_agent.md R235, R236). -/

namespace Sys2Proof.Machine

/-- Pin `done`: the level of `DONE` (60_exceptions.md R262). -/
def State.donePin (s : State) : Bool := s.done

/-- Pin `fault`: high exactly while `TX_STATE = Faulted` (60_exceptions.md R262). -/
def State.faultPin (s : State) : Bool := decide (s.txState = .faulted)

/-- The interval 70_reset_and_hazards.md R300 leaves open: between the last BEAT and COMPLETE when there is no trailer. -/
def State.lineOpen (s : State) : Bool :=
  decide (s.txState = .transferring ∧ s.dmaIdx = s.dmaLen ∧ s.cfg.resetSamples = 0)

/-- The line at tick `t` of the current period: low while the timer is stopped or the duty is 0 (45_dma_pwm_agent.md R236),
a free value in the open interval (U12; log 14), else high for the first `PWM_DUTY` ticks (R235). -/
def State.ledOut (s : State) (t : Nat) : Bool :=
  if !s.pwmRun || decide (s.pwmDuty = 0#16) then false
  else if s.lineOpen then Config.freeLine s.moves t
  else decide (t < s.pwmDuty.toNat)

/-- One whole period on the line: high for the sample's ticks, then low (45_dma_pwm_agent.md R235). -/
def slotTicks (period : Nat) (d : Sample) : List Bool :=
  List.replicate d.toNat true ++ List.replicate (period - d.toNat) false

/-- The ticks of a run of whole periods, as `WAVE` stands for them (10_state.md R48, 45_dma_pwm_agent.md R237). -/
def lineTicks (period : Nat) (samples : List Sample) : List Bool := samples.flatMap (slotTicks period)

end Sys2Proof.Machine
end

