-- ==== Sys2Proof/Machine/Runs.lean ====
section
/-! DEFINITION. Runs: quiescence, the end of a run of a host program and what can be observed of it
(70_reset_and_hazards.md R310), weak fairness (44_engine_steps.md R219, 45_dma_pwm_agent.md R234), and the steps of one
whole transfer. -/

namespace Sys2Proof.Machine

/-! ## Quiescence -/

/-- No step of ENG and no step of DMA other than ERR_RAISE is enabled (70_reset_and_hazards.md R310). -/
def State.quiescent (s : State) : Bool :=
  !EngStep.enabled .start s && !EngStep.enabled .complete s && !EngStep.enabled .latchTick s &&
    !EngStep.enabled .latchDone s && !EngStep.enabled .fault s && !DmaStep.enabled .beat s &&
    !DmaStep.enabled .tcRaise s

/-! ## Whose move it is -/

/-- An operation of a host program: a command or a port operation (70_reset_and_hazards.md R310, R311), the look-up of
R294 among them (log 25). -/
def Move.isHost : Move → Bool
  | .command _ => true
  | .pixwr _ _ => true
  | .sbrd _ _ => true
  | .drive _ => true
  | .lookup _ => true
  | .eng _ => false
  | .dma _ => false
  | .rst => false

/-- A step of ENG, or of DMA other than ERR_RAISE: the core's own progress (70_reset_and_hazards.md R310). -/
def Move.isProgress : Move → Bool
  | .eng _ => true
  | .dma d => decide (d ≠ .errRaise)
  | .command _ => false
  | .pixwr _ _ => false
  | .sbrd _ _ => false
  | .drive _ => false
  | .lookup _ => false
  | .rst => false

/-- A move that ends a transfer before its completion: ERR_RAISE, RESET, a CANCEL that is not refused (44_engine_steps.md
R219, 43_tx_commands.md R194), and hardware reset (70_reset_and_hazards.md R290). -/
def Move.intervenes (m : Move) (s : State) : Bool :=
  match m with
  | .command w =>
    match decode w with
    | .ok .reset => true
    | .ok .cancel => decide (s.txState = .latching)
    | .ok .new => false
    | .ok (.prepare _ _) => false
    | .ok (.arm _) => false
    | .ok (.send _ _) => false
    | .ok .state => false
    | .error _ => false
  | .dma d => decide (d = .errRaise)
  | .rst => true
  | .pixwr _ _ => false
  | .sbrd _ _ => false
  | .drive _ => false
  | .lookup _ => false
  | .eng _ => false

/-! ## Finite runs -/

/-- The state with `m`, and nothing after it, as the move to come (log 25). -/
def State.offer (s : State) (m : Move) : State := { s with inbox := [m] }

/-- The outcome of making the moves in order, each by one step. -/
def runMoves : List Move → State → Host.Outcome State Fault Refusal
  | [], s => .next s
  | m :: ms, s =>
    match step (s.offer m) with
    | .next t => runMoves ms t
    | .fault r => .fault r
    | .refused r => .refused r

/-- What can be observed after one step: the response, the pins `done` and `fault`, the value SBRD returned and, for the
model only, `WAVE` (70_reset_and_hazards.md R310). -/
structure Observation where
  rsp : Option Response
  done : Bool
  fault : Bool
  sbData : Option Sample
  wave : List Sample
  deriving DecidableEq, Repr

/-- The observation of a state a step has left (70_reset_and_hazards.md R310). -/
def State.observe (s : State) : Observation where
  rsp := s.rsp
  done := s.donePin
  fault := s.faultPin
  sbData := s.sbData
  wave := s.wave

/-- What is observed along the moves, one observation a step (70_reset_and_hazards.md R310). -/
def trace : List Move → State → List Observation
  | [], _ => []
  | m :: ms, s =>
    match step (s.offer m) with
    | .next t => t.observe :: trace ms t
    | .fault _ => []
    | .refused _ => []

/-- The host operations among the moves, in order. -/
def hostOps (ms : List Move) : List Move := ms.filter Move.isHost

/-- The moves `ms` are a run of the host program `prog` that begins in `s` and has ended in `t`: the host has issued its
last operation and the core is quiescent (70_reset_and_hazards.md R310). -/
def RunEnded (prog ms : List Move) (s t : State) : Prop :=
  hostOps ms = prog ∧ runMoves ms s = .next t ∧ t.quiescent = true

/-- The run has ended, and not in `Faulted`, where its frame would not be complete (70_reset_and_hazards.md R310). -/
def RunCompleted (prog ms : List Move) (s t : State) : Prop := RunEnded prog ms s t ∧ t.txState ≠ .faulted

/-! ## Infinite runs and fairness -/

/-- `st 0, st 1, …` is the run in which step `k` makes `move k` (00_scope.md R12; log 25). -/
def IsRun (move : Nat → Move) (st : Nat → State) : Prop :=
  ∀ k, step ((st k).offer (move k)) = .next (st (k + 1))

/-- Weak fairness of the move `m`: if it stays enabled it is eventually taken (44_engine_steps.md R219). -/
def WeaklyFair (move : Nat → Move) (st : Nat → State) (m : Move) (enabled : State → Bool) : Prop :=
  ∀ k, (∀ j, k ≤ j → enabled (st j) = true) → ∃ j, k ≤ j ∧ move j = m

/-- Weak fairness of every step of ENG (44_engine_steps.md R219). -/
def EngFair (move : Nat → Move) (st : Nat → State) : Prop :=
  ∀ e : EngStep, WeaklyFair move st (.eng e) e.enabled

/-- Weak fairness of BEAT and TC_RAISE; ERR_RAISE is the environment's (45_dma_pwm_agent.md R233, R234). -/
def DmaFair (move : Nat → Move) (st : Nat → State) : Prop :=
  ∀ d : DmaStep, d ≠ .errRaise → WeaklyFair move st (.dma d) d.enabled

/-! ## One transfer -/

/-- The agents' steps that carry an armed buffer of `len` samples from `Arming` to `Idle`: START delivers sample 0 and each
BEAT one more (44_engine_steps.md R210, R211, R212, R215; 45_dma_pwm_agent.md R231, R232). -/
def transferSchedule (len : Nat) : List Move :=
  .eng .start :: (List.replicate (len - 1) (.dma .beat) ++ [.dma .tcRaise, .eng .complete, .eng .latchDone])

end Sys2Proof.Machine
end

