-- ==== Sys2Proof/Safety.lean ====
section
/-! DEFINITION. What counts as a safe state and a safe run, in the terms the claims use: the invariant of the spec
(10_state.md R21, R22, R27 to R31, R38, R43; 44_engine_steps.md R213), the transition table (43_tx_commands.md R180), the
ownership table (42_buffer_manager.md R160) and the threshold decoder (41_encoder.md R151). -/

namespace Sys2Proof.Machine

/-! ## The memories' canonical form -/

/-- Every memory is in canonical form and `PIX` holds no index outside its 65536 entries (20_memory.md R60). -/
abbrev State.MemoryWf (s : State) : Prop :=
  Mem.Wf s.pix ∧ (∀ c ∈ s.pix, c.1 < Config.pixDepth) ∧ Mem.Wf s.sb0.data ∧ Mem.Wf s.sb1.data

/-! ## The invariant -/

/-- The legal values of CFG after a successful NEW (10_state.md R22, 40_config.md R122, R123). -/
structure CfgRegs.Legal (c : CfgRegs) : Prop where
  t0Positive : 0 < c.t0High.toNat
  t0BelowT1 : c.t0High.toNat < c.t1High.toNat
  t1BelowPeriod : c.t1High.toNat < c.bitPeriod.toNat
  channels : c.chCount = 3#3 ∨ c.chCount = 4#3
  orderDistinct : c.order.Nodup
  orderNoWhite : c.chCount = 3#3 → (3#2 : ChannelId) ∉ c.order
  eightBits : c.bitsPerChannel = 8#4
  capacity : 1 ≤ c.capPix.toNat

/-- Every piece of state of 10_state.md R20 but `PIX` is at its reset value (70_reset_and_hazards.md R291). -/
def State.AtReset (s : State) : Prop :=
  s = { State.reset with
    pix := s.pix, ports := s.ports, rsp := s.rsp, sbData := s.sbData, inbox := s.inbox, moves := s.moves }

/-- The buffer holds a frame of `n` pixels for some `n ≤ CAP_PIX`: its length, bit samples below `n × BPP`, zeros from
there to the end (10_state.md R31, 41_encoder.md R154). -/
def SampleBuffer.HoldsFrame (c : CfgRegs) (x : SampleBuffer) : Prop :=
  ∃ n, n ≤ c.capPix.toNat ∧ x.len.toNat = c.frameLen n ∧
    (∀ i, i < n * c.bpp → Mem.read x.data i = some c.t0High ∨ Mem.read x.data i = some c.t1High) ∧
    (∀ i, n * c.bpp ≤ i → i < c.frameLen n → Mem.read x.data i = some 0#16)

/-- A value the core ever puts in `PWM_DUTY`: 0, `T0_HIGH` or `T1_HIGH` (41_encoder.md R145). -/
def CfgRegs.IsDuty (c : CfgRegs) (v : Sample) : Prop := v = 0#16 ∨ v = c.t0High ∨ v = c.t1High

/-- The engine owns a buffer (10_state.md R27). -/
def TxState.ownsBuffer : TxState → Bool
  | .idle => false
  | .arming => true
  | .transferring => true
  | .latching => true
  | .faulted => false

/-- The invariant: what the spec says holds of every state the core reaches. -/
structure State.Inv (s : State) : Prop where
  /-- The memories are in canonical form. -/
  memory : s.MemoryWf
  /-- While `CONFIGURED = 0` nothing but `PIX` has moved from its reset value (40_config.md R128, 70_reset_and_hazards.md R290). -/
  unconfigured : s.cfg.configured = false → s.AtReset
  /-- 10_state.md R22, 40_config.md R127. -/
  legal : s.cfg.configured = true → s.cfg.Legal
  /-- 10_state.md R40. -/
  period : s.pwmPeriod = s.cfg.bitPeriod
  /-- 10_state.md R21. -/
  single : s.cfg.double = false → s.sb1 = SampleBuffer.reset
  /-- No element at or past `SB_CAP` is written (10_state.md R46, 20_memory.md R61). -/
  capacity : ∀ b, b < 2 → ∀ c ∈ (s.buffer b).data, c.1 < s.cfg.sbCap
  /-- 10_state.md R31: `length == pixel_count * bits_per_pixel + reset_sample_count`, from the first frame on. -/
  frames : ∀ b, b < s.cfg.nbuf →
    (s.sbLen b = 0#32 ∧ s.owner b = .writable) ∨ (s.buffer b).HoldsFrame s.cfg
  /-- 10_state.md R27. -/
  owns : s.inflightValid = s.txState.ownsBuffer
  /-- 10_state.md R27, R37. -/
  inflight : s.inflightValid = true →
    s.inflightH.toNat < s.cfg.nbuf ∧ s.owner s.inflightH.toNat = .inflight ∧ s.dmaSrc = s.inflightH ∧
      s.dmaLen = s.sbLen s.inflightH.toNat
  /-- 10_state.md R29 (e). -/
  oneInflight : ∀ b, b < 2 → s.owner b = .inflight → s.inflightValid = true ∧ b = s.inflightH.toNat
  /-- 42_buffer_manager.md R160, 20_memory.md R74: only a fault makes a buffer `UNUSABLE`, and RESET frees it. -/
  unusable : ∀ b, b < 2 → s.owner b = .unusable → s.txState = .faulted
  /-- 10_state.md R29 (a). -/
  quiet : s.txState = .idle ∨ s.txState = .faulted → s.dmaEn = false ∧ s.pwmRun = false
  /-- 10_state.md R29 (b). -/
  arming : s.txState = .arming → s.dmaEn = false ∧ s.pwmRun = false ∧ s.dmaIdx = 0#32
  /-- 10_state.md R29 (c). -/
  transferring : s.txState = .transferring → s.dmaEn = true ∧ s.pwmRun = true
  /-- 10_state.md R29 (d). -/
  latching : s.txState = .latching →
    s.dmaEn = false ∧ s.pwmRun = true ∧ s.pwmDuty = 0#16 ∧ s.dmaIdx = s.dmaLen
  /-- 10_state.md R38. -/
  indexBound : s.dmaIdx.toNat ≤ s.dmaLen.toNat
  /-- 10_state.md R29 (f). -/
  completion : s.tcPend = true → s.txState = .transferring ∧ s.dmaIdx = s.dmaLen
  /-- 10_state.md R28, 44_engine_steps.md R213. -/
  countdown : s.latchCnt = 0#32
  /-- 60_exceptions.md R262, R263. -/
  doneQuiet : s.done = true → s.txState = .idle ∨ s.txState = .faulted
  /-- 41_encoder.md R145. -/
  duty : s.cfg.IsDuty s.pwmDuty
  /-- 41_encoder.md R145, 10_state.md R48. -/
  waveValues : ∀ v ∈ s.wave, s.cfg.IsDuty v

/-- In `Transferring` and `Latching` the last `DMA_IDX` elements of `WAVE` are the elements `SB[INFLIGHT_H][0 .. DMA_IDX−1]`,
in order (20_memory.md R78, 45_dma_pwm_agent.md R237, R238). -/
def State.Delivered (s : State) : Prop :=
  s.txState = .transferring ∨ s.txState = .latching →
    s.dmaIdx.toNat ≤ s.wave.length ∧
    (s.wave.drop (s.wave.length - s.dmaIdx.toNat)).map some =
      (List.range s.dmaIdx.toNat).map (Mem.read (s.buffer s.inflightH.toNat).data)

/-! ## Transition tables -/

/-- The transitions of `TX_STATE` a move can make (43_tx_commands.md R180; hardware reset, 70_reset_and_hazards.md R290). -/
def txEdge (m : Move) (a b : TxState) : Bool :=
  match m with
  | .command w =>
    match decode w with
    | .ok (.arm _) => a == .idle && b == .arming
    | .ok (.send _ _) => a == .idle && b == .arming
    | .ok .cancel => a == .latching && b == .idle
    | .ok .reset => b == .idle
    | .ok .new => false
    | .ok (.prepare _ _) => false
    | .ok .state => false
    | .error _ => false
  | .eng .start => a == .arming && b == .transferring
  | .eng .complete => a == .transferring && b == .latching
  | .eng .latchDone => a == .latching && b == .idle
  | .eng .fault => b == .faulted
  | .eng .latchTick => false
  | .rst => b == .idle
  | .pixwr _ _ => false
  | .sbrd _ _ => false
  | .drive _ => false
  | .lookup _ => false
  | .dma _ => false

/-- The transitions of a buffer's ownership a move can make (42_buffer_manager.md R160); SEND passes through `PREPARED`
inside its step. -/
def ownerEdge (m : Move) (a b : Owner) : Bool :=
  match m with
  | .command w =>
    match decode w with
    | .ok (.prepare _ _) => a == .writable && b == .prepared
    | .ok (.arm _) => a == .prepared && b == .inflight
    | .ok (.send _ _) => a == .writable && b == .inflight
    | .ok .cancel => a == .inflight && b == .writable
    | .ok .reset => b == .writable
    | .ok .new => b == .writable
    | .ok .state => false
    | .error _ => false
  | .eng .latchDone => a == .inflight && b == .writable
  | .eng .fault => a == .inflight && b == .unusable
  | .eng .start => false
  | .eng .complete => false
  | .eng .latchTick => false
  | .rst => b == .writable
  | .pixwr _ _ => false
  | .sbrd _ _ => false
  | .drive _ => false
  | .lookup _ => false
  | .dma _ => false

/-! ## Reading a frame back -/

/-- `thr = (T0_HIGH + T1_HIGH) div 2` (41_encoder.md R151). -/
def CfgRegs.threshold (c : CfgRegs) : Nat := (c.t0High.toNat + c.t1High.toNat) / 2

/-- A sample reads as 1 when it is above the threshold (41_encoder.md R151). -/
def CfgRegs.readBit (c : CfgRegs) (v : Sample) : Bool := decide (c.threshold < v.toNat)

/-- Eight bits, most significant first, as a byte (41_encoder.md R151). -/
def byteOfBits : List Bool → BitVec 8 := List.foldl (fun acc b => acc <<< 1 ||| BitVec.setWidth 8 (BitVec.ofBool b)) 0#8

/-- The byte read back from the 8 samples that start at index `i` (41_encoder.md R151). -/
def CfgRegs.readByte (c : CfgRegs) (samples : List Sample) (i : Nat) : BitVec 8 :=
  byteOfBits (((samples.drop i).take 8).map c.readBit)

end Sys2Proof.Machine
end

