-- ==== Sys2Proof/Certificates/Slice0/Obligations.lean ====
section
/-! DEFINITION. The statements for the provers. `t = { s with f := t.f, … }` says that every field of the state but the ones
named is unchanged. -/

open Sys2Proof Sys2Proof.Machine

/-! ## Encoding -/

/-- 30_encoding.md R92 to R96: the decoder gives back every well-formed command from its word. -/
def Obligations.DecodeOfEncodeIsTheCommand : Prop :=
  ∀ i : Instr, i.wellFormed = true → decode (encode i) = .ok i

/-- 30_encoding.md R96, R97: a word that decodes is the word of exactly that command, which is well-formed. -/
def Obligations.EncodeOfDecodeIsTheWord : Prop :=
  ∀ (w : Word) (i : Instr), decode w = .ok i → i.wellFormed = true ∧ encode i = w

/-- 30_encoding.md R96: the example words of the rule, and one word of each other row, decode to their commands. -/
def Obligations.ExampleWordsDecode : Prop :=
  decode 0x40000003#32 = .ok (.send .rgb 3) ∧ decode 0x48000001#32 = .ok (.send .rgbw 1) ∧
  decode 0x20000003#32 = .ok (.prepare .rgb 3) ∧ decode 0x2800FFFF#32 = .ok (.prepare .rgbw 65535) ∧
  decode 0x30000001#32 = .ok (.arm 1) ∧ decode 0x10000000#32 = .ok .new ∧ decode 0x50000000#32 = .ok .state ∧
  decode 0x60000000#32 = .ok .cancel ∧ decode 0x70000000#32 = .ok .reset

/-- 30_encoding.md R92 to R94, R96: a word selects a row exactly when its opcode is the row's and its must-be-zero
bits are zero, and no word selects two rows. -/
def Obligations.RowsSelectByOpcodeAndZeroBits : Prop :=
  ∀ w : Word,
    (rowNew.selects w = true ↔ opField w = 1#4 ∧ w.extractLsb' 0 28 = 0#28) ∧
    (rowPrepare.selects w = true ↔ opField w = 2#4 ∧ w.extractLsb' 16 11 = 0#11) ∧
    (rowArm.selects w = true ↔ opField w = 3#4 ∧ w.extractLsb' 1 27 = 0#27) ∧
    (rowSend.selects w = true ↔ opField w = 4#4 ∧ w.extractLsb' 16 11 = 0#11) ∧
    (rowState.selects w = true ↔ opField w = 5#4 ∧ w.extractLsb' 0 28 = 0#28) ∧
    (rowCancel.selects w = true ↔ opField w = 6#4 ∧ w.extractLsb' 0 28 = 0#28) ∧
    (rowReset.selects w = true ↔ opField w = 7#4 ∧ w.extractLsb' 0 28 = 0#28) ∧
    (∀ r ∈ opcodeMap, ∀ r' ∈ opcodeMap, r.selects w = true → r'.selects w = true → r = r')

/-- 30_encoding.md R97: a word that matches no row is answered `ERR_ILLEGAL_CMD` with value 0 and changes no state,
configured or not; these are the words of opcodes 0x0 and 0x8 to 0xF, the all-zero word among them, and the words of
an assigned opcode with a nonzero must-be-zero bit; any other word selects exactly one command. -/
def Obligations.IllegalWordIsAnsweredAndChangesNothing : Prop :=
  (∀ (w : Word) (s : State), (∀ r ∈ opcodeMap, r.selects w = false) →
    perform (.command w) s = .next { s with rsp := some ⟨.errIllegalCmd, 0#3⟩ }) ∧
  (∀ w : Word, opcodeAssigned w = false → ∀ r ∈ opcodeMap, r.selects w = false) ∧
  (∀ r ∈ opcodeMap, r.selects 0#32 = false) ∧
  (∀ w : Word, (opField w = 1#4 ∨ opField w = 5#4 ∨ opField w = 6#4 ∨ opField w = 7#4) ∧ w.extractLsb' 0 28 ≠ 0#28 ∨
      opField w = 3#4 ∧ w.extractLsb' 1 27 ≠ 0#27 ∨
      (opField w = 2#4 ∨ opField w = 4#4) ∧ w.extractLsb' 16 11 ≠ 0#11 →
    opcodeAssigned w = true ∧ ∀ r ∈ opcodeMap, r.selects w = false) ∧
  (∀ w : Word, (∃ r ∈ opcodeMap, r.selects w = true) → ∃ i, decode w = .ok i ∧ (rowOf i).selects w = true)

/-! ## Steps -/

/-- 00_scope.md R12 (and log 1, 2, 5, 7, the model's queue and outputs): a step makes the next move in the state with
the move taken off the queue, one more move counted and the outputs of the step before gone; on an empty queue the
move is the free value. -/
def Obligations.StepMakesTheNextMove : Prop :=
  (∀ (s : State) (m : Move) (rest : List Move), s.inbox = m :: rest →
    step s = perform m { s with inbox := rest, moves := s.moves + 1, rsp := none, sbData := none }) ∧
  (∀ s : State, s.inbox = [] →
    step s = perform (Config.freeMove s.moves) { s with moves := s.moves + 1, rsp := none, sbData := none })

/-- 30_encoding.md R91, R102: when the next move is a command word that decodes to `i`, the step is `exec i`. -/
def Obligations.StepRunsTheDecodedCommand : Prop :=
  ∀ (s : State) (w : Word) (rest : List Move) (i : Instr), s.inbox = .command w :: rest → decode w = .ok i →
    step s = exec i { s with inbox := rest, moves := s.moves + 1, rsp := none, sbData := none }

/-- 30_encoding.md R100, R102: every word, legal or not, is answered in its own step with exactly one response, whose
status code is 0 to 8; no command waits. -/
def Obligations.EveryWordIsAnsweredAtOnce : Prop :=
  ∀ (w : Word) (s : State), ∃ t r, perform (.command w) s = .next t ∧ t.rsp = some r ∧ r.status.code.toNat ≤ 8

/-- 30_encoding.md R101: what `rsp_value` carries: the handle, the state, or 0. -/
def Obligations.ResponseValueIsHandleStateOrZero : Prop :=
  (∀ (w : Word) (s t : State) (e : Illegal), decode w = .error e → perform (.command w) s = .next t →
    t.rsp.map Response.value = some 0#3) ∧
  ∀ (i : Instr) (s t : State) (r : Response), exec i s = .next t → t.rsp = some r →
    (∀ v n, i = .prepare v n → r.status = .ok →
      ∃ b, b < s.cfg.nbuf ∧ t.owner b = .prepared ∧ s.owner b = .writable ∧ r.value = BitVec.ofNat 3 b) ∧
    (i = .state → r.status = .ok → r.value = s.txState.code) ∧
    (i ≠ .state → (∀ v n, i ≠ .prepare v n) → r.value = 0#3) ∧
    (r.status ≠ .ok → r.value = 0#3)

/-- 60_exceptions.md R250: no error changes any state. -/
def Obligations.ErrorsChangeNoState : Prop :=
  ∀ (i : Instr) (s t : State) (r : Response), exec i s = .next t → t.rsp = some r → r.status ≠ .ok →
    t = { s with rsp := some ⟨r.status, 0#3⟩ }

/-- 10_state.md R43: no command reads `TC_PEND` or `ERR_PEND`: the response and every other field come out the same
whatever the two bits are. -/
def Obligations.CommandsDoNotReadPendingBits : Prop :=
  ∀ (i : Instr) (s t t' : State) (tc er : Bool), exec i s = .next t →
    exec i { s with tcPend := tc, errPend := er } = .next t' →
    t' = { t with tcPend := t'.tcPend, errPend := t'.errPend }

/-- 20_memory.md R65, R75: a PIXWR commutes with every step of the engine and of the DMA agent, so the caller may
overwrite `PIX` while a frame is being transmitted. -/
def Obligations.PixelWritesDoNotReachTheTransfer : Prop :=
  ∀ (s : State) (i : BitVec 16) (w : Pixel),
    (∀ (e : EngStep) (t : State), perform (.eng e) s = .next t →
      perform (.eng e) (s.pixWrite i w) = .next (t.pixWrite i w)) ∧
    (∀ (d : DmaStep) (t : State), perform (.dma d) s = .next t →
      perform (.dma d) (s.pixWrite i w) = .next (t.pixWrite i w))

/-! ## Reset -/

/-- 70_reset_and_hazards.md R290, R291, the hardware-reset column: the values right after hardware reset, which puts
every piece of state there from any state; no element of a memory has been written. -/
def Obligations.ResetValues : Prop :=
  let s := State.reset
  s.cfg.configured = false ∧ s.cfg.bitPeriod = 0#16 ∧ s.cfg.t0High = 0#16 ∧ s.cfg.t1High = 0#16 ∧
  s.cfg.resetTicks = 0#32 ∧ s.cfg.chCount = 0#3 ∧ s.cfg.chOrder = ⟨0#2, 0#2, 0#2, 0#2⟩ ∧
  s.cfg.bitsPerChannel = 0#4 ∧ s.cfg.capPix = 0#16 ∧ s.cfg.double = false ∧ s.txState = .idle ∧
  s.txState.code = 0#3 ∧ s.inflightValid = false ∧ s.inflightH = 0#1 ∧ s.latchCnt = 0#32 ∧ s.done = false ∧
  (∀ b, s.owner b = .writable ∧ s.sbLen b = 0#32 ∧ ∀ i, Mem.read (s.buffer b).data i = none) ∧
  s.dmaSrc = 0#1 ∧ s.dmaLen = 0#32 ∧ s.dmaIdx = 0#32 ∧ s.dmaEn = false ∧ s.pwmPeriod = 0#16 ∧
  s.pwmDuty = 0#16 ∧ s.pwmRun = false ∧ s.tcPend = false ∧ s.errPend = false ∧
  (∀ i, Mem.read s.pix i = none) ∧ s.wave = [] ∧ (∀ k, s.ledOut k = false) ∧
  ∀ s₁ : State, perform .rst s₁ = .next { State.reset with ports := s₁.ports, inbox := s₁.inbox, moves := s₁.moves }

/-! ## NEW -/

/-- 40_config.md R126: NEW with a nonzero capacity, `0 < t0 < t1 < period`, `bits_per_channel` 8, 3 or 4 channels and
a proper order succeeds: CFG takes the ports, every register its initial value; `PIX` and the buffers' contents, and
buffer 1 of a single-buffered core, are not written. The ports it samples are put there by the moves drive and lookup
(10_state.md R49, 40_config.md R121, 70_reset_and_hazards.md R294; the moves are the model's own form, log 4, and the
table's entry is opaque, log 11), which change nothing else. -/
def Obligations.NewConfiguresTheCore : Prop :=
  (∀ (s : State) (p : CfgPorts), perform (.drive p) s = .next { s with ports := p }) ∧
  (∀ (s : State) (variant : Nat), perform (.lookup variant) s =
    .next { s with ports := { s.ports with spec := Config.timingTable variant } }) ∧
  ∀ s : State, s.cfg.configured = false → s.ports.capPix ≠ 0#16 →
    0 < s.ports.spec.t0High.toNat → s.ports.spec.t0High.toNat < s.ports.spec.t1High.toNat →
    s.ports.spec.t1High.toNat < s.ports.spec.bitPeriod.toNat → s.ports.spec.bitsPerChannel = 8#4 →
    (s.ports.spec.chCount = 3#3 ∨ s.ports.spec.chCount = 4#3) →
    ((List.range s.ports.spec.chCount.toNat).map s.ports.spec.channelAt).Nodup →
    (s.ports.spec.chCount = 3#3 → ∀ k < 3, s.ports.spec.channelAt k ≠ 3#2) →
    ∃ t, exec .new s = .next t ∧ t.rsp = some ⟨.ok, 0#3⟩ ∧ t.cfg.configured = true ∧
      t.cfg.bitPeriod = s.ports.spec.bitPeriod ∧ t.cfg.t0High = s.ports.spec.t0High ∧
      t.cfg.t1High = s.ports.spec.t1High ∧ t.cfg.resetTicks = s.ports.spec.resetTicks ∧
      t.cfg.chCount = s.ports.spec.chCount ∧ t.cfg.chOrder.p0 = s.ports.spec.chOrder.extractLsb' 0 2 ∧
      t.cfg.chOrder.p1 = s.ports.spec.chOrder.extractLsb' 2 2 ∧
      t.cfg.chOrder.p2 = s.ports.spec.chOrder.extractLsb' 4 2 ∧
      t.cfg.chOrder.p3 = s.ports.spec.chOrder.extractLsb' 6 2 ∧
      t.cfg.bitsPerChannel = 8#4 ∧ t.cfg.capPix = s.ports.capPix ∧ t.cfg.double = s.ports.double ∧
      (∀ b, b < t.cfg.nbuf → t.buffer b = { s.buffer b with owner := .writable, len := 0#32 }) ∧
      (t.cfg.double = false → t.sb1 = s.sb1) ∧
      t.txState = .idle ∧ t.inflightValid = false ∧ t.inflightH = 0#1 ∧ t.latchCnt = 0#32 ∧ t.done = false ∧
      t.dmaSrc = 0#1 ∧ t.dmaLen = 0#32 ∧ t.dmaIdx = 0#32 ∧ t.dmaEn = false ∧
      t.pwmPeriod = s.ports.spec.bitPeriod ∧ t.pwmDuty = 0#16 ∧ t.pwmRun = false ∧ t.tcPend = false ∧
      t.errPend = false ∧ t.wave = [] ∧ t.pix = s.pix ∧ t.ports = s.ports ∧ t.sbData = s.sbData ∧
      t.inbox = s.inbox ∧ t.moves = s.moves

/-- 40_config.md R126: NEW answers `ERR_CONFIG` and changes nothing when already configured, with zero capacity, with
the timing invariant violated, with `bits_per_channel` not 8, with a channel count not 3 or 4, with a repeated
channel, and with W in a 3-channel order. -/
def Obligations.NewRefusesABadConfiguration : Prop :=
  ∀ s : State,
    (s.cfg.configured = true ∨ s.ports.capPix = 0#16 ∨ s.ports.spec.t0High = 0#16 ∨
      s.ports.spec.t1High.toNat ≤ s.ports.spec.t0High.toNat ∨
      s.ports.spec.bitPeriod.toNat ≤ s.ports.spec.t1High.toNat ∨ s.ports.spec.bitsPerChannel ≠ 8#4 ∨
      (s.ports.spec.chCount ≠ 3#3 ∧ s.ports.spec.chCount ≠ 4#3) ∨
      (∃ j k, j < k ∧ k < s.ports.spec.chCount.toNat ∧ s.ports.spec.channelAt j = s.ports.spec.channelAt k) ∨
      (s.ports.spec.chCount = 3#3 ∧ ∃ k, k < 3 ∧ s.ports.spec.channelAt k = 3#2)) →
    exec .new s = .next { s with rsp := some ⟨.errConfig, 0#3⟩ }

/-- 40_config.md R128: while `CONFIGURED = 0` every legal word but NEW answers `ERR_CONFIG` with value 0 and changes
no state, and an illegal word answers `ERR_ILLEGAL_CMD`. -/
def Obligations.UnconfiguredCommandsAreRefused : Prop :=
  ∀ (s : State) (w : Word), s.cfg.configured = false →
    (∀ i, decode w = .ok i → i ≠ .new →
      perform (.command w) s = .next { s with rsp := some ⟨.errConfig, 0#3⟩ }) ∧
    (∀ e, decode w = .error e → perform (.command w) s = .next { s with rsp := some ⟨.errIllegalCmd, 0#3⟩ })

/-- 10_state.md R22: CFG is written by a successful NEW, from `CONFIGURED = 0`, and by nothing else (hardware reset
apart, 70_reset_and_hazards.md R290). -/
def Obligations.ConfigurationIsImmutable : Prop :=
  ∀ (m : Move) (s t : State), perform m s = .next t → t.cfg ≠ s.cfg →
    m = .rst ∨ (m = .command (encode .new) ∧ s.cfg.configured = false ∧ t.cfg = s.ports.toRegs ∧
      t.rsp = some ⟨.ok, 0#3⟩)

/-- 40_config.md R127: in every state that meets the invariant `CONFIGURED = 1` implies `0 < T0_HIGH < T1_HIGH <
BIT_PERIOD`; from a configured state nothing but hardware reset changes the three registers; and a NEW that answers
`OK` sampled ports in that order. -/
def Obligations.TimingOrderHoldsOnceConfigured : Prop :=
  (∀ s : State, s.Inv → s.cfg.configured = true → 0 < s.cfg.t0High.toNat ∧
    s.cfg.t0High.toNat < s.cfg.t1High.toNat ∧ s.cfg.t1High.toNat < s.cfg.bitPeriod.toNat) ∧
  (∀ (m : Move) (s t : State), s.cfg.configured = true → m ≠ .rst → perform m s = .next t →
    t.cfg.t0High = s.cfg.t0High ∧ t.cfg.t1High = s.cfg.t1High ∧ t.cfg.bitPeriod = s.cfg.bitPeriod) ∧
  ∀ (s t : State) (r : Response), exec .new s = .next t → t.rsp = some r → r.status = .ok →
    0 < t.cfg.t0High.toNat ∧ t.cfg.t0High.toNat < t.cfg.t1High.toNat ∧ t.cfg.t1High.toNat < t.cfg.bitPeriod.toNat ∧
      t.cfg.t0High = s.ports.spec.t0High ∧ t.cfg.t1High = s.ports.spec.t1High ∧
      t.cfg.bitPeriod = s.ports.spec.bitPeriod

/-! ## The encoder -/

/-- 00_scope.md R9, R10 and 10_state.md R24: with a legal CFG no length overflows its register; `RESET_SAMPLES` is the
least count whose ticks reach `RESET_TICKS`, so the trailer covers the latch time and exceeds it by less than a
period. -/
def Obligations.DerivedLengthsFitAndCoverTheLatchTime : Prop :=
  ∀ c : CfgRegs, c.Legal →
    (c.bpp = 24 ∨ c.bpp = 32) ∧ c.resetSamples ≤ 1431655765 ∧ c.capPix.toNat * c.bpp ≤ 2097120 ∧
    c.sbCap ≤ 1433752885 ∧ c.sbCap < 2 ^ 32 ∧ c.resetTicks.toNat ≤ c.trailerTicks ∧
    c.trailerTicks < c.resetTicks.toNat + c.bitPeriod.toNat ∧
    (∀ q, c.resetTicks.toNat ≤ q * c.bitPeriod.toNat → c.resetSamples ≤ q)

/-- 41_encoder.md R141, R142, R143: the capacity check first, which fails exactly when `N > CAP_PIX`, then the variant
check `(V = 1) = (CH_COUNT = 4)`. -/
def Obligations.EncoderChecksCapacityThenVariant : Prop :=
  ∀ (c : CfgRegs) (v : Variant) (n : Nat), c.Legal →
    (c.capPix.toNat < n → c.encodeError v n = some .errBufTooSmall) ∧
    (n ≤ c.capPix.toNat → ¬(v = .rgbw ↔ c.chCount = 4#3) → c.encodeError v n = some .errChannelMismatch) ∧
    (n ≤ c.capPix.toNat → (v = .rgbw ↔ c.chCount = 4#3) → c.encodeError v n = none)

/-- 41_encoder.md R144, closed form: the sample at `p × BPP + 8k + (7 − j)` is `T1_HIGH` if bit `j` of channel
`CH_ORDER[k]` of pixel `p` is 1, else `T0_HIGH`. -/
def Obligations.FrameSampleClosedForm : Prop :=
  ∀ (c : CfgRegs) (pixels : List Pixel) (p k j : Nat) (px : Pixel) (id : ChannelId), c.Legal →
    pixels[p]? = some px → c.order[k]? = some id → j ≤ 7 →
    (c.frame pixels)[p * c.bpp + 8 * k + (7 - j)]? =
      some (if px.getLsbD (8 * id.toNat + j) then c.t1High else c.t0High)

/-- 41_encoder.md R150, R154 (and R153, R146): a frame of `N` pixels has exactly `N × BPP + RESET_SAMPLES` samples;
bit samples are `T0_HIGH` or `T1_HIGH`, the samples from `N × BPP` to the end are 0, no bit sample is 0, and the empty
frame is exactly the trailer. -/
def Obligations.FrameLengthAndValueLaws : Prop :=
  ∀ (c : CfgRegs) (pixels : List Pixel), c.Legal →
    (c.frame pixels).length = pixels.length * c.bpp + c.resetSamples ∧
    (∀ i, i < pixels.length * c.bpp →
      (c.frame pixels)[i]? = some c.t0High ∨ (c.frame pixels)[i]? = some c.t1High) ∧
    (∀ i, pixels.length * c.bpp ≤ i → i < c.frameLen pixels.length → (c.frame pixels)[i]? = some 0#16) ∧
    c.t0High ≠ 0#16 ∧ c.t1High ≠ 0#16 ∧ c.frame [] = List.replicate c.resetSamples 0#16

/-- 41_encoder.md R151: reading each sample against `thr = (T0_HIGH + T1_HIGH) div 2` gives back every channel byte
the encoder read, in wire order; `T0_HIGH ≤ thr < T1_HIGH`; no sample equals the real-valued midpoint, and one equals
`thr` only when `T1_HIGH = T0_HIGH + 1`, where `thr = T0_HIGH`. -/
def Obligations.ThresholdReadingRecoversEveryByte : Prop :=
  ∀ (c : CfgRegs) (pixels : List Pixel), c.Legal →
    (∀ (p k : Nat) (px : Pixel) (id : ChannelId), pixels[p]? = some px → c.order[k]? = some id →
      c.readByte (c.frame pixels) (p * c.bpp + 8 * k) = channelByte px id) ∧
    c.t0High.toNat ≤ c.threshold ∧ c.threshold < c.t1High.toNat ∧
    ∀ v ∈ c.frame pixels, 2 * v.toNat ≠ c.t0High.toNat + c.t1High.toNat ∧
      (v.toNat = c.threshold → c.t1High.toNat = c.t0High.toNat + 1 ∧ c.threshold = c.t0High.toNat)

/-- 41_encoder.md R152: Encode is a function of the variant, the pixels read and CFG only: two PREPAREs of the same
pixels under the same CFG, from any two states and into any two buffers, end with one status, and on `OK` leave equal
samples and equal lengths. -/
def Obligations.EncodingIsDeterministic : Prop :=
  ∀ (s s' t t' : State) (v : Variant) (n w w' : Nat) (r r' : Response), s.cfg = s'.cfg → s.cfg.Legal →
    (∀ p, p < n → s.pixel p = s'.pixel p) → s.firstWritable = some w → s'.firstWritable = some w' →
    exec (.prepare v n) s = .next t → t.rsp = some r → exec (.prepare v n) s' = .next t' → t'.rsp = some r' →
    r.status = r'.status ∧
      (r.status = .ok → t.sbLen w = t'.sbLen w' ∧ ∀ i, i < (t.sbLen w).toNat →
        Mem.read (t.buffer w).data i = Mem.read (t'.buffer w').data i ∧ (Mem.read (t.buffer w).data i).isSome)

/-! ## PREPARE -/

/-- 42_buffer_manager.md R162, R161: PREPARE encodes the frame of `PIX[0 .. N−1]` into the lowest writable buffer,
marks it `PREPARED` and answers its index; nothing else changes, and elements past the frame keep their contents
(R147). -/
def Obligations.PrepareEncodesIntoTheLowestWritable : Prop :=
  ∀ (s : State) (v : Variant) (n w : Nat), s.cfg.configured = true → w < s.cfg.nbuf → s.owner w = .writable →
    (∀ b, b < w → s.owner b ≠ .writable) → n ≤ s.cfg.capPix.toNat → (v = .rgbw ↔ s.cfg.chCount = 4#3) →
    ∃ t, exec (.prepare v n) s = .next t ∧ t.rsp = some ⟨.ok, BitVec.ofNat 3 w⟩ ∧
      t.owner w = .prepared ∧ t.sbLen w = BitVec.ofNat 32 (n * s.cfg.bpp + s.cfg.resetSamples) ∧
      (∀ i, i < (s.cfg.frame (s.pixelBuffer n)).length →
        Mem.read (t.buffer w).data i = (s.cfg.frame (s.pixelBuffer n))[i]?) ∧
      (∀ i, (s.cfg.frame (s.pixelBuffer n)).length ≤ i →
        Mem.read (t.buffer w).data i = Mem.read (s.buffer w).data i) ∧
      (∀ b, b < 2 → b ≠ w → t.buffer b = s.buffer b) ∧
      t = { s with sb0 := t.sb0, sb1 := t.sb1, rsp := t.rsp }

/-- 42_buffer_manager.md R162: PREPARE's errors in priority order: no writable buffer, capacity, variant. -/
def Obligations.PrepareRefusesInOrder : Prop :=
  ∀ (s : State) (v : Variant) (n : Nat), s.cfg.configured = true →
    ((∀ b, b < s.cfg.nbuf → s.owner b ≠ .writable) →
      exec (.prepare v n) s = .next { s with rsp := some ⟨.errBusy, 0#3⟩ }) ∧
    ((∃ b, b < s.cfg.nbuf ∧ s.owner b = .writable) → s.cfg.sbCap < n * s.cfg.bpp + s.cfg.resetSamples →
      exec (.prepare v n) s = .next { s with rsp := some ⟨.errBufTooSmall, 0#3⟩ }) ∧
    ((∃ b, b < s.cfg.nbuf ∧ s.owner b = .writable) → n * s.cfg.bpp + s.cfg.resetSamples ≤ s.cfg.sbCap →
      ¬(v = .rgbw ↔ s.cfg.chCount = 4#3) →
      exec (.prepare v n) s = .next { s with rsp := some ⟨.errChannelMismatch, 0#3⟩ })

/-! ## ARM -/

/-- 43_tx_commands.md R182: ARM in `Idle` hands the prepared buffer `h` to the engine; DMA and timer do not start, and
the buffer's length and contents stay. -/
def Obligations.ArmHandsOverThePreparedBuffer : Prop :=
  ∀ (s : State) (h : Nat), s.cfg.configured = true → s.txState = .idle → h < s.cfg.nbuf → s.owner h = .prepared →
    ∃ t, exec (.arm h) s = .next t ∧ t.rsp = some ⟨.ok, 0#3⟩ ∧ t.txState = .arming ∧ t.dmaSrc.toNat = h ∧
      t.dmaLen = s.sbLen h ∧ t.dmaIdx = 0#32 ∧ t.inflightValid = true ∧ t.inflightH.toNat = h ∧
      t.tcPend = false ∧ t.done = false ∧ t.buffer h = { s.buffer h with owner := .inflight } ∧
      (∀ b, b < 2 → b ≠ h → t.buffer b = s.buffer b) ∧
      t = { s with
        sb0 := t.sb0, sb1 := t.sb1, rsp := t.rsp, txState := t.txState, dmaSrc := t.dmaSrc, dmaLen := t.dmaLen,
        dmaIdx := t.dmaIdx, inflightValid := t.inflightValid, inflightH := t.inflightH, tcPend := t.tcPend,
        done := t.done }

/-- 43_tx_commands.md R182: ARM's errors in priority order: `Faulted`, not `Idle`, bad handle. -/
def Obligations.ArmRefusesInOrder : Prop :=
  ∀ (s : State) (h : Nat), s.cfg.configured = true →
    (s.txState = .faulted → exec (.arm h) s = .next { s with rsp := some ⟨.errHwFault, 0#3⟩ }) ∧
    (s.txState = .arming ∨ s.txState = .transferring ∨ s.txState = .latching →
      exec (.arm h) s = .next { s with rsp := some ⟨.errBusy, 0#3⟩ }) ∧
    (s.txState = .idle → (s.cfg.nbuf ≤ h ∨ s.owner h ≠ .prepared) →
      exec (.arm h) s = .next { s with rsp := some ⟨.errBadHandle, 0#3⟩ })

/-! ## SEND -/

/-- 43_tx_commands.md R186: SEND in `Idle` encodes into the lowest writable buffer and arms it in one step. -/
def Obligations.SendEncodesAndArms : Prop :=
  ∀ (s : State) (v : Variant) (n w : Nat), s.cfg.configured = true → s.txState = .idle → w < s.cfg.nbuf →
    s.owner w = .writable → (∀ b, b < w → s.owner b ≠ .writable) → n ≤ s.cfg.capPix.toNat →
    (v = .rgbw ↔ s.cfg.chCount = 4#3) →
    ∃ t, exec (.send v n) s = .next t ∧ t.rsp = some ⟨.ok, 0#3⟩ ∧ t.txState = .arming ∧ t.dmaSrc.toNat = w ∧
      t.dmaLen = BitVec.ofNat 32 (n * s.cfg.bpp + s.cfg.resetSamples) ∧ t.sbLen w = t.dmaLen ∧ t.dmaIdx = 0#32 ∧
      t.owner w = .inflight ∧ t.inflightValid = true ∧ t.inflightH.toNat = w ∧ t.tcPend = false ∧ t.done = false ∧
      (∀ i, i < (s.cfg.frame (s.pixelBuffer n)).length →
        Mem.read (t.buffer w).data i = (s.cfg.frame (s.pixelBuffer n))[i]?) ∧
      (∀ i, (s.cfg.frame (s.pixelBuffer n)).length ≤ i →
        Mem.read (t.buffer w).data i = Mem.read (s.buffer w).data i) ∧
      (∀ b, b < 2 → b ≠ w → t.buffer b = s.buffer b) ∧
      t = { s with
        sb0 := t.sb0, sb1 := t.sb1, rsp := t.rsp, txState := t.txState, dmaSrc := t.dmaSrc, dmaLen := t.dmaLen,
        dmaIdx := t.dmaIdx, inflightValid := t.inflightValid, inflightH := t.inflightH, tcPend := t.tcPend,
        done := t.done }

/-- 43_tx_commands.md R186: SEND's errors in priority order; a refused SEND writes no sample buffer. -/
def Obligations.SendRefusesInOrder : Prop :=
  ∀ (s : State) (v : Variant) (n : Nat), s.cfg.configured = true →
    (s.txState = .faulted → exec (.send v n) s = .next { s with rsp := some ⟨.errHwFault, 0#3⟩ }) ∧
    (s.txState = .arming ∨ s.txState = .transferring ∨ s.txState = .latching →
      exec (.send v n) s = .next { s with rsp := some ⟨.errBusy, 0#3⟩ }) ∧
    (s.txState = .idle → (∀ b, b < s.cfg.nbuf → s.owner b ≠ .writable) →
      exec (.send v n) s = .next { s with rsp := some ⟨.errBusy, 0#3⟩ }) ∧
    (s.txState = .idle → (∃ b, b < s.cfg.nbuf ∧ s.owner b = .writable) →
      s.cfg.sbCap < n * s.cfg.bpp + s.cfg.resetSamples →
      exec (.send v n) s = .next { s with rsp := some ⟨.errBufTooSmall, 0#3⟩ }) ∧
    (s.txState = .idle → (∃ b, b < s.cfg.nbuf ∧ s.owner b = .writable) →
      n * s.cfg.bpp + s.cfg.resetSamples ≤ s.cfg.sbCap → ¬(v = .rgbw ↔ s.cfg.chCount = 4#3) →
      exec (.send v n) s = .next { s with rsp := some ⟨.errChannelMismatch, 0#3⟩ })

/-- 43_tx_commands.md R187 (and 30_encoding.md R106): in `Idle`, SEND ends in the same state and with the same status
as PREPARE followed by ARM of the handle it answered, and when PREPARE fails, SEND fails with the same status; outside
`Idle` SEND fails where PREPARE may succeed. -/
def Obligations.SendIsPrepareThenArm : Prop :=
  ∀ (s t : State) (v : Variant) (n : Nat) (r : Response), s.cfg.configured = true →
    exec (.prepare v n) s = .next t → t.rsp = some r →
    (s.txState = .idle → r.status = .ok → exec (.send v n) s = exec (.arm r.value.toNat) t) ∧
    (s.txState = .idle → r.status ≠ .ok → exec (.send v n) s = .next { s with rsp := some ⟨r.status, 0#3⟩ }) ∧
    (s.txState ≠ .idle → ∃ st, st ≠ Status.ok ∧ exec (.send v n) s = .next { s with rsp := some ⟨st, 0#3⟩ })

/-! ## STATE, CANCEL, RESET -/

/-- 43_tx_commands.md R190: STATE, `0x50000000`, answers the code of `TX_STATE` (0 Idle, 1 Arming, 2 Transferring, 3
Latching, 4 Faulted) and changes no state; unconfigured it answers `ERR_CONFIG`. -/
def Obligations.StateAnswersTxState : Prop :=
  encode .state = 0x50000000#32 ∧
  ∀ s : State,
    (s.cfg.configured = true → exec .state s = .next { s with rsp := some ⟨.ok,
      match s.txState with
      | .idle => 0#3 | .arming => 1#3 | .transferring => 2#3 | .latching => 3#3 | .faulted => 4#3⟩ }) ∧
    (s.cfg.configured = false → exec .state s = .next { s with rsp := some ⟨.errConfig, 0#3⟩ })

/-- 43_tx_commands.md R194: CANCEL, `0x60000000`, in `Latching` frees the buffer, stops the timer, clears the
countdown and returns to `Idle` without raising `DONE`; in `Idle` it changes nothing; in `Arming`, `Transferring` and
`Faulted` it answers `ERR_NOT_CANCELABLE`, unconfigured `ERR_CONFIG`, and changes nothing. -/
def Obligations.CancelEndsTheLatchWait : Prop :=
  encode .cancel = 0x60000000#32 ∧
  ∀ s : State,
    (s.cfg.configured = true → s.txState = .latching →
      ∃ t, exec .cancel s = .next t ∧ t.rsp = some ⟨.ok, 0#3⟩ ∧ t.txState = .idle ∧
        t.buffer s.inflightH.toNat = { s.buffer s.inflightH.toNat with owner := .writable } ∧
        (∀ b, b < 2 → b ≠ s.inflightH.toNat → t.buffer b = s.buffer b) ∧ t.inflightValid = false ∧
        t.latchCnt = 0#32 ∧ t.pwmRun = false ∧ t.pwmDuty = 0#16 ∧ t.done = s.done ∧
        t = { s with
          sb0 := t.sb0, sb1 := t.sb1, rsp := t.rsp, txState := t.txState, inflightValid := t.inflightValid,
          latchCnt := t.latchCnt, pwmRun := t.pwmRun, pwmDuty := t.pwmDuty }) ∧
    (s.cfg.configured = true → s.txState = .idle → exec .cancel s = .next { s with rsp := some ⟨.ok, 0#3⟩ }) ∧
    (s.cfg.configured = true → s.txState = .arming ∨ s.txState = .transferring ∨ s.txState = .faulted →
      exec .cancel s = .next { s with rsp := some ⟨.errNotCancelable, 0#3⟩ }) ∧
    (s.cfg.configured = false → exec .cancel s = .next { s with rsp := some ⟨.errConfig, 0#3⟩ })

/-- 43_tx_commands.md R200: RESET, `0x70000000`, in any configured state, forces `Idle` and makes every buffer
writable; lengths, contents, CFG, `PWM_PERIOD`, `DMA_SRC`, `DMA_LEN`, `DMA_IDX`, `INFLIGHT_H` and `WAVE` stay;
unconfigured it answers `ERR_CONFIG` and changes nothing. -/
def Obligations.ResetForcesIdle : Prop :=
  encode .reset = 0x70000000#32 ∧
  (∀ s : State, s.cfg.configured = false → exec .reset s = .next { s with rsp := some ⟨.errConfig, 0#3⟩ }) ∧
  ∀ s : State, s.cfg.configured = true →
    ∃ t, exec .reset s = .next t ∧ t.rsp = some ⟨.ok, 0#3⟩ ∧ t.txState = .idle ∧
      (∀ b, b < s.cfg.nbuf → t.buffer b = { s.buffer b with owner := .writable }) ∧
      (s.cfg.double = false → t.sb1 = s.sb1) ∧ t.inflightValid = false ∧ t.latchCnt = 0#32 ∧ t.done = false ∧
      t.dmaEn = false ∧ t.pwmRun = false ∧ t.pwmDuty = 0#16 ∧ t.tcPend = false ∧ t.errPend = false ∧
      t = { s with
        sb0 := t.sb0, sb1 := t.sb1, rsp := t.rsp, txState := t.txState, inflightValid := t.inflightValid,
        latchCnt := t.latchCnt, done := t.done, dmaEn := t.dmaEn, pwmRun := t.pwmRun, pwmDuty := t.pwmDuty,
        tcPend := t.tcPend, errPend := t.errPend }

/-- 44_engine_steps.md R216, 43_tx_commands.md R200 (the source's fault scenario): after FAULT, SEND and ARM answer
`ERR_HW_FAULT`; after RESET a fitting SEND succeeds. The pin `fault` is high exactly while `TX_STATE = Faulted`
(60_exceptions.md R262), so it is low again after RESET. -/
def Obligations.FaultRefusesSendUntilReset : Prop :=
  ∀ (s f : State) (v : Variant) (n h : Nat), s.cfg.configured = true → s.errPend = true → n ≤ s.cfg.capPix.toNat →
    (v = .rgbw ↔ s.cfg.chCount = 4#3) → perform (.eng .fault) s = .next f →
    f.faultPin = true ∧ exec (.send v n) f = .next { f with rsp := some ⟨.errHwFault, 0#3⟩ } ∧
    exec (.arm h) f = .next { f with rsp := some ⟨.errHwFault, 0#3⟩ } ∧
    ∃ r t, exec .reset f = .next r ∧ r.faultPin = false ∧ exec (.send v n) r = .next t ∧ t.rsp = some ⟨.ok, 0#3⟩ ∧
      t.txState = .arming ∧ ∀ x : State, x.faultPin = true ↔ x.txState = .faulted

/-! ## Host ports -/

/-- 20_memory.md R64: PIXWR writes one entry, in every state, and changes nothing else; the channel layout of the
entry, and W ignored by the encoder in a 3-channel core. -/
def Obligations.PixwrWritesOneEntry : Prop :=
  (∀ (s : State) (i : BitVec 16) (w : Pixel), ∃ t, perform (.pixwr i w) s = .next t ∧
    Mem.read t.pix i.toNat = some w ∧ (∀ j, j ≠ i.toNat → Mem.read t.pix j = Mem.read s.pix j) ∧
    t.pixel i.toNat = w ∧ t = { s with pix := t.pix }) ∧
  (∀ w : Pixel, channelByte w 0#2 = w.extractLsb' 0 8 ∧ channelByte w 1#2 = w.extractLsb' 8 8 ∧
    channelByte w 2#2 = w.extractLsb' 16 8 ∧ channelByte w 3#2 = w.extractLsb' 24 8) ∧
  (∀ (c : CfgRegs) (w w' : Pixel), c.Legal → c.chCount = 3#3 → w.extractLsb' 0 24 = w'.extractLsb' 0 24 →
    c.pixelSamples w = c.pixelSamples w')

/-- 20_memory.md R66: SBRD, in every state, puts `SB[b][i]` on `sb_data` when the element exists and has been written,
and changes no state (any other answer is a free value). -/
def Obligations.SbrdReadsWithoutEffect : Prop :=
  ∀ (s : State) (b : BitVec 1) (i : BitVec 32), ∃ t, perform (.sbrd b i) s = .next t ∧ t.sbData.isSome ∧
    t = { s with sbData := t.sbData } ∧
    ∀ v, s.cfg.configured = true → b.toNat < s.cfg.nbuf → i.toNat < s.cfg.sbCap →
      Mem.read (s.buffer b.toNat).data i.toNat = some v → t.sbData = some v

/-! ## The engine's steps -/

/-- 44_engine_steps.md R210, R211: START is enabled in `Arming` with no pending error; it starts DMA and timer
together and delivers sample 0, or nothing if the transfer is empty. -/
def Obligations.StartDeliversTheFirstSample : Prop :=
  ∀ s : State, (EngStep.enabled .start s = true ↔ s.txState = .arming ∧ s.errPend = false) ∧
    (s.txState = .arming → s.errPend = false → s.dmaLen = 0#32 → perform (.eng .start) s =
      .next { s with dmaEn := true, pwmRun := true, txState := .transferring }) ∧
    (∀ v, s.txState = .arming → s.errPend = false → s.dmaLen ≠ 0#32 → s.cfg.configured = true →
      s.dmaSrc.toNat < s.cfg.nbuf → 0 < s.cfg.sbCap →
      Mem.read (s.buffer s.dmaSrc.toNat).data 0 = some v → perform (.eng .start) s =
      .next { s with
        dmaEn := true, pwmRun := true, pwmDuty := v, wave := s.wave ++ [v], dmaIdx := 1#32,
        txState := .transferring })

/-- 44_engine_steps.md R212: COMPLETE, enabled in `Transferring` with a completion and no error pending, forces the
line low, stops the channel, leaves the timer running and loads the residual latch time (a natural subtraction is
`max(0, …)`). -/
def Obligations.CompleteForcesTheLineLow : Prop :=
  ∀ s : State,
    (EngStep.enabled .complete s = true ↔ s.txState = .transferring ∧ s.tcPend = true ∧ s.errPend = false) ∧
    (s.txState = .transferring → s.tcPend = true → s.errPend = false →
      perform (.eng .complete) s = .next { s with
        tcPend := false, dmaEn := false, pwmDuty := 0#16,
        latchCnt := BitVec.ofNat 32 (s.cfg.resetTicks.toNat - s.cfg.resetSamples * s.cfg.bitPeriod.toNat),
        txState := .latching })

/-- 44_engine_steps.md R213: with a legal CFG the residual COMPLETE loads is always 0, so LATCH_TICK is never enabled.
-/
def Obligations.LatchResidualIsZero : Prop :=
  (∀ (s t : State), s.cfg.Legal → EngStep.enabled .complete s = true → perform (.eng .complete) s = .next t →
    t.latchCnt = 0#32 ∧ EngStep.enabled .latchTick t = false ∧ EngStep.enabled .latchDone t = true) ∧
  ∀ s : State, s.Inv → EngStep.enabled .latchTick s = false

/-- 44_engine_steps.md R214: LATCH_TICK counts the latch wait down by one and leaves everything else alone. -/
def Obligations.LatchTickCountsDown : Prop :=
  ∀ s : State, (EngStep.enabled .latchTick s = true ↔ s.txState = .latching ∧ 0 < s.latchCnt.toNat) ∧
    (s.txState = .latching → 0 < s.latchCnt.toNat →
      ∃ t, perform (.eng .latchTick) s = .next t ∧ t.latchCnt.toNat = s.latchCnt.toNat - 1 ∧
        t = { s with latchCnt := t.latchCnt })

/-- 44_engine_steps.md R215, 20_memory.md R76: LATCH_DONE returns the in-flight buffer, and no other, raises `DONE`,
stops the timer and goes to `Idle`. -/
def Obligations.LatchDoneReturnsTheBuffer : Prop :=
  ∀ s : State,
    (EngStep.enabled .latchDone s = true ↔ s.txState = .latching ∧ s.latchCnt = 0#32 ∧ s.errPend = false) ∧
    (s.txState = .latching → s.latchCnt = 0#32 → s.errPend = false →
      ∃ t, perform (.eng .latchDone) s = .next t ∧ t.txState = .idle ∧ t.done = true ∧ t.donePin = true ∧
        t.pwmRun = false ∧ t.inflightValid = false ∧
        t.buffer s.inflightH.toNat = { s.buffer s.inflightH.toNat with owner := .writable } ∧
        (∀ b, b < 2 → b ≠ s.inflightH.toNat → t.buffer b = s.buffer b) ∧
        t = { s with
          sb0 := t.sb0, sb1 := t.sb1, txState := t.txState, done := t.done, pwmRun := t.pwmRun,
          inflightValid := t.inflightValid })

/-- 44_engine_steps.md R216 (and 60_exceptions.md R270): FAULT, enabled in any state with a pending error, disables
channel and timer, marks the in-flight buffer `UNUSABLE` if there is one, and enters `Faulted`, where ARM and SEND
answer `ERR_HW_FAULT`; nothing is saved. The pin `fault` is high exactly while `TX_STATE = Faulted` (R262). -/
def Obligations.FaultMarksTheBufferUnusable : Prop :=
  ∀ s : State,
    (EngStep.enabled .fault s = true ↔ s.errPend = true ∧ s.cfg.configured = true) ∧
    (s.faultPin = true ↔ s.txState = .faulted) ∧
    (s.cfg.configured = true → s.errPend = true →
      ∃ t, perform (.eng .fault) s = .next t ∧ t.txState = .faulted ∧ t.errPend = false ∧ t.tcPend = false ∧
        t.dmaEn = false ∧ t.pwmRun = false ∧ t.pwmDuty = 0#16 ∧ t.inflightValid = false ∧ t.latchCnt = 0#32 ∧
        (s.inflightValid = true →
          t.buffer s.inflightH.toNat = { s.buffer s.inflightH.toNat with owner := .unusable } ∧
          ∀ b, b < 2 → b ≠ s.inflightH.toNat → t.buffer b = s.buffer b) ∧
        (s.inflightValid = false → t.sb0 = s.sb0 ∧ t.sb1 = s.sb1) ∧
        t = { s with
          sb0 := t.sb0, sb1 := t.sb1, txState := t.txState, errPend := t.errPend, tcPend := t.tcPend,
          dmaEn := t.dmaEn, pwmRun := t.pwmRun, pwmDuty := t.pwmDuty, inflightValid := t.inflightValid,
          latchCnt := t.latchCnt } ∧
        t.faultPin = true ∧ (∀ h, exec (.arm h) t = .next { t with rsp := some ⟨.errHwFault, 0#3⟩ }) ∧
        ∀ v n, exec (.send v n) t = .next { t with rsp := some ⟨.errHwFault, 0#3⟩ })

/-- 44_engine_steps.md R218: a pending error disables START, COMPLETE and LATCH_DONE and enables FAULT, and does not
gate LATCH_TICK; with none pending at most one engine step is enabled. A step that is not enabled cannot happen (00_scope.md
R12): the model, whose queue may name one, then leaves the state as it is (log 3, the model's choice of form), so only
an enabled step has its effect. -/
def Obligations.PendingErrorComesFirst : Prop :=
  (∀ s : State, s.errPend = true → EngStep.enabled .start s = false ∧ EngStep.enabled .complete s = false ∧
    EngStep.enabled .latchDone s = false ∧ EngStep.enabled .fault s = s.cfg.configured ∧
    (EngStep.enabled .latchTick s = EngStep.enabled .latchTick { s with errPend := false })) ∧
  (∀ (s : State) (e e' : EngStep), s.errPend = false → e.enabled s = true → e'.enabled s = true → e = e') ∧
  (∀ (s : State) (e : EngStep), e.enabled s = false → perform (.eng e) s = .next s) ∧
  (∀ (s : State) (d : DmaStep), d.enabled s = false → perform (.dma d) s = .next s)

/-! ## The DMA agent's steps -/

/-- 45_dma_pwm_agent.md R231: BEAT, enabled while channel and timer run and samples are left, delivers the next
sample; it is enabled only in `Transferring`. -/
def Obligations.BeatDeliversTheNextSample : Prop :=
  (∀ s : State, DmaStep.enabled .beat s = true ↔
    s.dmaEn = true ∧ s.pwmRun = true ∧ s.dmaIdx.toNat < s.dmaLen.toNat) ∧
  (∀ s : State, s.Inv → DmaStep.enabled .beat s = true → s.txState = .transferring) ∧
  ∀ (s : State) (v : Sample), s.dmaEn = true → s.pwmRun = true → s.dmaIdx.toNat < s.dmaLen.toNat →
    s.cfg.configured = true → s.dmaSrc.toNat < s.cfg.nbuf → s.dmaIdx.toNat < s.cfg.sbCap →
    Mem.read (s.buffer s.dmaSrc.toNat).data s.dmaIdx.toNat = some v →
    ∃ t, perform (.dma .beat) s = .next t ∧ t.pwmDuty = v ∧ t.wave = s.wave ++ [v] ∧
      t.dmaIdx.toNat = s.dmaIdx.toNat + 1 ∧
      t = { s with pwmDuty := t.pwmDuty, wave := t.wave, dmaIdx := t.dmaIdx }

/-- 45_dma_pwm_agent.md R232, R233: TC_RAISE and ERR_RAISE latch their signals, under their enabling conditions, and
leave everything else alone. -/
def Obligations.SignalsAreLatched : Prop :=
  ∀ s : State,
    (DmaStep.enabled .tcRaise s = true ↔ s.dmaEn = true ∧ s.dmaIdx = s.dmaLen ∧ s.tcPend = false) ∧
    (DmaStep.enabled .errRaise s = true ↔ s.cfg.configured = true ∧ s.errPend = false) ∧
    (s.dmaEn = true → s.dmaIdx = s.dmaLen → s.tcPend = false →
      perform (.dma .tcRaise) s = .next { s with tcPend := true }) ∧
    (s.cfg.configured = true → s.errPend = false →
      perform (.dma .errRaise) s = .next { s with errPend := true })

/-! ## Whole-machine rules -/

/-- 43_tx_commands.md R180: every change of `TX_STATE` is in the transition table (hardware reset apart, R290). -/
def Obligations.TxStateMovesByTheTable : Prop :=
  ∀ (m : Move) (s t : State), s.Inv → perform m s = .next t →
    t.txState = s.txState ∨ txEdge m s.txState t.txState = true

/-- 42_buffer_manager.md R160, 20_memory.md R74: every change of a buffer's ownership is in the transition table. -/
def Obligations.OwnershipMovesByTheTable : Prop :=
  ∀ (m : Move) (s t : State) (b : Nat), s.Inv → b < 2 → perform m s = .next t →
    t.owner b = s.owner b ∨ ownerEdge m (s.owner b) (t.owner b) = true

/-- 20_memory.md R67, 10_state.md R32: nothing but hardware reset changes the contents of a buffer that is not
`WRITABLE`, and only PREPARE and SEND change the contents of one that is. -/
def Obligations.OnlyWritableBuffersAreWritten : Prop :=
  ∀ (m : Move) (s t : State) (b : Nat), b < 2 → perform m s = .next t → m ≠ .rst →
    (s.owner b ≠ .writable → (t.buffer b).data = (s.buffer b).data) ∧
    ((t.buffer b).data ≠ (s.buffer b).data →
      ∃ v n, n < 65536 ∧ (m = .command (encode (.prepare v n)) ∨ m = .command (encode (.send v n))))

/-- 10_state.md R35: `DONE`, the level of the pin `done`, is set to 1 by LATCH_DONE only, and cleared to 0 by a
successful ARM or SEND, by RESET and by NEW (and hardware reset), and by nothing else. -/
def Obligations.DoneIsRaisedByLatchDoneOnly : Prop :=
  (∀ (m : Move) (s t : State), perform m s = .next t → t.done ≠ s.done →
    (t.done = true ∧ m = .eng .latchDone) ∨
    (t.done = false ∧ (m = .rst ∨ ∃ w i, m = .command w ∧ decode w = .ok i ∧ t.rsp = some ⟨.ok, 0#3⟩ ∧
      (i = .new ∨ i = .reset ∨ (∃ h, i = .arm h) ∨ ∃ v n, i = .send v n)))) ∧
  (∀ s t : State, EngStep.enabled .latchDone s = true → perform (.eng .latchDone) s = .next t → t.done = true) ∧
  (∀ (i : Instr) (s t : State), (i = .new ∨ i = .reset ∨ (∃ h, i = .arm h) ∨ ∃ v n, i = .send v n) →
    exec i s = .next t → t.rsp = some ⟨.ok, 0#3⟩ → t.done = false) ∧
  ∀ s : State, s.donePin = s.done

/-- 10_state.md R48: `WAVE` is appended to, one value that is also put in `PWM_DUTY`, by START and BEAT, emptied by
NEW and hardware reset, and changed by nothing else. -/
def Obligations.WaveGrowsByDeliveriesOnly : Prop :=
  ∀ (m : Move) (s t : State), perform m s = .next t → t.wave ≠ s.wave →
    ((m = .eng .start ∨ m = .dma .beat) ∧ t.wave = s.wave ++ [t.pwmDuty]) ∨
    (t.wave = [] ∧ (m = .rst ∨ m = .command (encode .new)))

/-- 70_reset_and_hazards.md R310: a state is quiescent exactly when it is unconfigured, or `Idle` or `Faulted` with no
pending error; in any other some step of ENG or of DMA but ERR_RAISE is enabled. A run of a host program has ended when
the host has issued its last operation and the core is quiescent, and completed when moreover it is not in `Faulted`.
With no ERR_RAISE the core's own steps leave a quiescent state, and all that is observed of it, as it is; with no DMA
step, RESET or hardware reset `Transferring` lasts for ever (R301), and such a run has not ended. A run is written as
the list of moves made (log 25, the model's form). -/
def Obligations.QuiescentStates : Prop :=
  (∀ s : State, s.Inv →
    (s.quiescent = true ↔ s.cfg.configured = false ∨
      ((s.txState = .idle ∨ s.txState = .faulted) ∧ s.errPend = false))) ∧
  (∀ s : State, s.quiescent = false ↔
    (∃ e : EngStep, e.enabled s = true) ∨ ∃ d : DmaStep, d ≠ .errRaise ∧ d.enabled s = true) ∧
  (∀ (prog ms : List Move) (s t : State), s.Inv →
    (RunEnded prog ms s t ↔ ms.filter Move.isHost = prog ∧ runMoves ms s = .next t ∧
      (t.cfg.configured = false ∨ ((t.txState = .idle ∨ t.txState = .faulted) ∧ t.errPend = false))) ∧
    (RunCompleted prog ms s t ↔ RunEnded prog ms s t ∧ t.txState ≠ .faulted)) ∧
  (∀ (s : State) (ms : List Move), s.quiescent = true → (∀ m ∈ ms, m.isProgress = true) →
    (∃ t, runMoves ms s = .next t ∧ t.quiescent = true ∧
      t = { s with inbox := t.inbox, moves := t.moves, rsp := t.rsp, sbData := t.sbData }) ∧
    trace ms s = List.replicate ms.length ⟨none, s.done, decide (s.txState = .faulted), none, s.wave⟩) ∧
  ∀ (s : State) (ms : List Move), s.Inv → s.txState = .transferring → s.tcPend = false → s.errPend = false →
    (∀ m ∈ ms, (∀ d, m ≠ .dma d) ∧ m ≠ .rst ∧ ∀ w, m = .command w → decode w ≠ .ok .reset) →
    ∃ t, runMoves ms s = .next t ∧ t.txState = .transferring ∧ ∀ prog, ¬ RunEnded prog ms s t

/-- The invariant (10_state.md R21, R22, R27 to R31, R38) holds at reset. -/
def Obligations.ResetMeetsTheInvariant : Prop := State.reset.Inv ∧ State.reset.Delivered

/-- 10_state.md R29 and the rules the invariant cites: every step keeps it. -/
def Obligations.EveryStepKeepsTheInvariant : Prop :=
  ∀ s t : State, s.Inv → step s = .next t → t.Inv

/-- From every state that meets the invariant a step answers a next state, whatever the move. The one fault this excludes,
`noSuchElement`, is the model's own choice for a fetch of an element that does not exist (log 8; 20_memory.md R61, R78). -/
def Obligations.NoStepStops : Prop := ∀ s : State, s.Inv → ∃ t, step s = .next t

/-- 20_memory.md R78, 45_dma_pwm_agent.md R237, R238: whatever moves are interleaved, what has been delivered of the
current transfer is the prefix of the in-flight buffer, in order, each element once. -/
def Obligations.EveryStepKeepsTheDeliveredPrefix : Prop :=
  ∀ s t : State, s.Inv → s.Delivered → step s = .next t → t.Delivered

/-! ## The line -/

/-- 45_dma_pwm_agent.md R236: the line is low while the timer is stopped or the duty is 0; so it is in `Idle`,
`Arming`, `Latching` and `Faulted`, after RESET and after hardware reset. -/
def Obligations.LineIsLowOutsideTransferring : Prop :=
  (∀ (s : State) (k : Nat), s.pwmRun = false ∨ s.pwmDuty = 0#16 → s.ledOut k = false) ∧
  (∀ (s : State) (k : Nat), s.Inv → s.txState ≠ .transferring → s.ledOut k = false) ∧
  (∀ (s t : State) (k : Nat), s.cfg.configured = true → exec .reset s = .next t → t.ledOut k = false) ∧
  ∀ (s t : State) (k : Nat), perform .rst s = .next t → t.ledOut k = false

/-- 45_dma_pwm_agent.md R235: while the timer runs, outside the interval of R300, each period is high for `PWM_DUTY`
ticks first and then low, and ends low. -/
def Obligations.EachPeriodIsHighThenLow : Prop :=
  ∀ (s : State) (k : Nat), s.Inv → s.pwmRun = true → s.lineOpen = false →
    (s.ledOut k = true ↔ k < s.pwmDuty.toNat) ∧ s.pwmDuty.toNat < s.pwmPeriod.toNat ∧
    (slotTicks s.pwmPeriod.toNat s.pwmDuty).length = s.pwmPeriod.toNat ∧
    (k < s.pwmPeriod.toNat → (slotTicks s.pwmPeriod.toNat s.pwmDuty)[k]? = some (s.ledOut k))

/-- 45_dma_pwm_agent.md R237, 70_reset_and_hazards.md R308: on the line a frame is `N × BPP` slots of `BIT_PERIOD`
ticks, each the pulse of its sample, and then `RESET_SAMPLES × BIT_PERIOD ≥ RESET_TICKS` ticks of low. -/
def Obligations.FrameOnTheLineEndsWithTheLatchTime : Prop :=
  ∀ (c : CfgRegs) (pixels : List Pixel), c.Legal →
    ∃ pulses, pulses = lineTicks c.bitPeriod.toNat (pixels.flatMap c.pixelSamples) ∧
      lineTicks c.bitPeriod.toNat (c.frame pixels) = pulses ++ List.replicate c.trailerTicks false ∧
      pulses.length = pixels.length * c.bpp * c.bitPeriod.toNat ∧
      (lineTicks c.bitPeriod.toNat (c.frame pixels)).length = c.frameLen pixels.length * c.bitPeriod.toNat ∧
      c.resetTicks.toNat ≤ c.trailerTicks

/-- 44_engine_steps.md R219, 45_dma_pwm_agent.md R234, R237: an accepted ARM or SEND reaches `Idle` with `DONE` = 1 and
exactly its buffer's samples appended to `WAVE`, in every run that is weakly fair to ENG and DMA, however the moves are
interleaved, unless a move that ends the transfer (ERR_RAISE, RESET, an accepted CANCEL, hardware reset) comes first;
an error pending before the command was raised before it. Fairness is a premise on the run (log 19), and a run is
written as the sequence of moves made (log 25). The last clause, the bounded case: on a queue (log 1) that names a SEND
accepted in `Idle` and then the agents' steps of one transfer, so many steps append exactly the frame of the pixels it
read (R186, R211). -/
def Obligations.SentFrameReachesTheWire : Prop :=
  (∀ (move : Nat → Move) (st : Nat → State) (k : Nat) (w : Word) (i : Instr), IsRun move st → EngFair move st →
    DmaFair move st → (st k).Inv → (st k).errPend = false → move k = .command w → decode w = .ok i →
    ((∃ h, i = .arm h) ∨ ∃ v n, i = .send v n) → (st (k + 1)).rsp = some ⟨.ok, 0#3⟩ →
    ∃ n, k < n ∧ (∀ j, k < j → j < n → (st j).txState ≠ .idle ∧ (move j).intervenes (st j) = false) ∧
      (((st n).txState ≠ .idle ∧ (move n).intervenes (st n) = true) ∨
        ((st n).txState = .idle ∧ (st n).done = true ∧ (st n).quiescent = true ∧
          (st n).owner (st (k + 1)).inflightH.toNat = .writable ∧
          (st n).wave.map some = (st k).wave.map some ++
            (List.range ((st (k + 1)).sbLen (st (k + 1)).inflightH.toNat).toNat).map
              (Mem.read ((st (k + 1)).buffer (st (k + 1)).inflightH.toNat).data)))) ∧
  ∀ (s : State) (v : Variant) (n w : Nat) (rest : List Move), s.Inv → s.cfg.configured = true → s.txState = .idle →
    s.errPend = false → w < s.cfg.nbuf → s.owner w = .writable → (∀ b, b < w → s.owner b ≠ .writable) →
    n ≤ s.cfg.capPix.toNat → (v = .rgbw ↔ s.cfg.chCount = 4#3) →
    s.inbox = .command (encode (.send v n)) :: (transferSchedule (s.cfg.frameLen n) ++ rest) →
    ∃ t, Host.Core.run Sys2Proof.core ((transferSchedule (s.cfg.frameLen n)).length + 1) s = .next t ∧
      t.txState = .idle ∧ t.done = true ∧ t.owner w = .writable ∧ t.inbox = rest ∧
      t.wave = s.wave ++ s.cfg.frame (s.takeMove.pixelBuffer n)
end

