-- ==== Sys2Proof/Laws/State.lean ====
section
/-! SUPPORT. One lemma per field per update of State, so that no later proof unfolds a record update. For an update of
a buffer the lemmas on `State.buffer` stand in Laws/Buffers.lean. -/

namespace Sys2Proof.Machine

/-! ### State.respond -/

@[simp] theorem State.respond_cfg (s : State) (st : Status) (v : BitVec 3) : (s.respond st v).cfg = s.cfg := rfl
@[simp] theorem State.respond_txState (s : State) (st : Status) (v : BitVec 3) : (s.respond st v).txState = s.txState := rfl
@[simp] theorem State.respond_inflightValid (s : State) (st : Status) (v : BitVec 3) : (s.respond st v).inflightValid = s.inflightValid := rfl
@[simp] theorem State.respond_inflightH (s : State) (st : Status) (v : BitVec 3) : (s.respond st v).inflightH = s.inflightH := rfl
@[simp] theorem State.respond_latchCnt (s : State) (st : Status) (v : BitVec 3) : (s.respond st v).latchCnt = s.latchCnt := rfl
@[simp] theorem State.respond_done (s : State) (st : Status) (v : BitVec 3) : (s.respond st v).done = s.done := rfl
@[simp] theorem State.respond_sb0 (s : State) (st : Status) (v : BitVec 3) : (s.respond st v).sb0 = s.sb0 := rfl
@[simp] theorem State.respond_sb1 (s : State) (st : Status) (v : BitVec 3) : (s.respond st v).sb1 = s.sb1 := rfl
@[simp] theorem State.respond_dmaSrc (s : State) (st : Status) (v : BitVec 3) : (s.respond st v).dmaSrc = s.dmaSrc := rfl
@[simp] theorem State.respond_dmaLen (s : State) (st : Status) (v : BitVec 3) : (s.respond st v).dmaLen = s.dmaLen := rfl
@[simp] theorem State.respond_dmaIdx (s : State) (st : Status) (v : BitVec 3) : (s.respond st v).dmaIdx = s.dmaIdx := rfl
@[simp] theorem State.respond_dmaEn (s : State) (st : Status) (v : BitVec 3) : (s.respond st v).dmaEn = s.dmaEn := rfl
@[simp] theorem State.respond_pwmPeriod (s : State) (st : Status) (v : BitVec 3) : (s.respond st v).pwmPeriod = s.pwmPeriod := rfl
@[simp] theorem State.respond_pwmDuty (s : State) (st : Status) (v : BitVec 3) : (s.respond st v).pwmDuty = s.pwmDuty := rfl
@[simp] theorem State.respond_pwmRun (s : State) (st : Status) (v : BitVec 3) : (s.respond st v).pwmRun = s.pwmRun := rfl
@[simp] theorem State.respond_tcPend (s : State) (st : Status) (v : BitVec 3) : (s.respond st v).tcPend = s.tcPend := rfl
@[simp] theorem State.respond_errPend (s : State) (st : Status) (v : BitVec 3) : (s.respond st v).errPend = s.errPend := rfl
@[simp] theorem State.respond_pix (s : State) (st : Status) (v : BitVec 3) : (s.respond st v).pix = s.pix := rfl
@[simp] theorem State.respond_wave (s : State) (st : Status) (v : BitVec 3) : (s.respond st v).wave = s.wave := rfl
@[simp] theorem State.respond_ports (s : State) (st : Status) (v : BitVec 3) : (s.respond st v).ports = s.ports := rfl
@[simp] theorem State.respond_rsp (s : State) (st : Status) (v : BitVec 3) : (s.respond st v).rsp = some ⟨st, v⟩ := rfl
@[simp] theorem State.respond_sbData (s : State) (st : Status) (v : BitVec 3) : (s.respond st v).sbData = s.sbData := rfl
@[simp] theorem State.respond_inbox (s : State) (st : Status) (v : BitVec 3) : (s.respond st v).inbox = s.inbox := rfl
@[simp] theorem State.respond_moves (s : State) (st : Status) (v : BitVec 3) : (s.respond st v).moves = s.moves := rfl

/-! ### State.setBuffer -/

@[simp] theorem State.setBuffer_cfg (s : State) (b : Nat) (x : SampleBuffer) : (s.setBuffer b x).cfg = s.cfg := by
  unfold State.setBuffer; split <;> rfl
@[simp] theorem State.setBuffer_txState (s : State) (b : Nat) (x : SampleBuffer) : (s.setBuffer b x).txState = s.txState := by
  unfold State.setBuffer; split <;> rfl
@[simp] theorem State.setBuffer_inflightValid (s : State) (b : Nat) (x : SampleBuffer) : (s.setBuffer b x).inflightValid = s.inflightValid := by
  unfold State.setBuffer; split <;> rfl
@[simp] theorem State.setBuffer_inflightH (s : State) (b : Nat) (x : SampleBuffer) : (s.setBuffer b x).inflightH = s.inflightH := by
  unfold State.setBuffer; split <;> rfl
@[simp] theorem State.setBuffer_latchCnt (s : State) (b : Nat) (x : SampleBuffer) : (s.setBuffer b x).latchCnt = s.latchCnt := by
  unfold State.setBuffer; split <;> rfl
@[simp] theorem State.setBuffer_done (s : State) (b : Nat) (x : SampleBuffer) : (s.setBuffer b x).done = s.done := by
  unfold State.setBuffer; split <;> rfl
@[simp] theorem State.setBuffer_dmaSrc (s : State) (b : Nat) (x : SampleBuffer) : (s.setBuffer b x).dmaSrc = s.dmaSrc := by
  unfold State.setBuffer; split <;> rfl
@[simp] theorem State.setBuffer_dmaLen (s : State) (b : Nat) (x : SampleBuffer) : (s.setBuffer b x).dmaLen = s.dmaLen := by
  unfold State.setBuffer; split <;> rfl
@[simp] theorem State.setBuffer_dmaIdx (s : State) (b : Nat) (x : SampleBuffer) : (s.setBuffer b x).dmaIdx = s.dmaIdx := by
  unfold State.setBuffer; split <;> rfl
@[simp] theorem State.setBuffer_dmaEn (s : State) (b : Nat) (x : SampleBuffer) : (s.setBuffer b x).dmaEn = s.dmaEn := by
  unfold State.setBuffer; split <;> rfl
@[simp] theorem State.setBuffer_pwmPeriod (s : State) (b : Nat) (x : SampleBuffer) : (s.setBuffer b x).pwmPeriod = s.pwmPeriod := by
  unfold State.setBuffer; split <;> rfl
@[simp] theorem State.setBuffer_pwmDuty (s : State) (b : Nat) (x : SampleBuffer) : (s.setBuffer b x).pwmDuty = s.pwmDuty := by
  unfold State.setBuffer; split <;> rfl
@[simp] theorem State.setBuffer_pwmRun (s : State) (b : Nat) (x : SampleBuffer) : (s.setBuffer b x).pwmRun = s.pwmRun := by
  unfold State.setBuffer; split <;> rfl
@[simp] theorem State.setBuffer_tcPend (s : State) (b : Nat) (x : SampleBuffer) : (s.setBuffer b x).tcPend = s.tcPend := by
  unfold State.setBuffer; split <;> rfl
@[simp] theorem State.setBuffer_errPend (s : State) (b : Nat) (x : SampleBuffer) : (s.setBuffer b x).errPend = s.errPend := by
  unfold State.setBuffer; split <;> rfl
@[simp] theorem State.setBuffer_pix (s : State) (b : Nat) (x : SampleBuffer) : (s.setBuffer b x).pix = s.pix := by
  unfold State.setBuffer; split <;> rfl
@[simp] theorem State.setBuffer_wave (s : State) (b : Nat) (x : SampleBuffer) : (s.setBuffer b x).wave = s.wave := by
  unfold State.setBuffer; split <;> rfl
@[simp] theorem State.setBuffer_ports (s : State) (b : Nat) (x : SampleBuffer) : (s.setBuffer b x).ports = s.ports := by
  unfold State.setBuffer; split <;> rfl
@[simp] theorem State.setBuffer_rsp (s : State) (b : Nat) (x : SampleBuffer) : (s.setBuffer b x).rsp = s.rsp := by
  unfold State.setBuffer; split <;> rfl
@[simp] theorem State.setBuffer_sbData (s : State) (b : Nat) (x : SampleBuffer) : (s.setBuffer b x).sbData = s.sbData := by
  unfold State.setBuffer; split <;> rfl
@[simp] theorem State.setBuffer_inbox (s : State) (b : Nat) (x : SampleBuffer) : (s.setBuffer b x).inbox = s.inbox := by
  unfold State.setBuffer; split <;> rfl
@[simp] theorem State.setBuffer_moves (s : State) (b : Nat) (x : SampleBuffer) : (s.setBuffer b x).moves = s.moves := by
  unfold State.setBuffer; split <;> rfl

/-! ### State.setOwner -/

@[simp] theorem State.setOwner_cfg (s : State) (b : Nat) (o : Owner) : (s.setOwner b o).cfg = s.cfg := State.setBuffer_cfg _ _ _
@[simp] theorem State.setOwner_txState (s : State) (b : Nat) (o : Owner) : (s.setOwner b o).txState = s.txState := State.setBuffer_txState _ _ _
@[simp] theorem State.setOwner_inflightValid (s : State) (b : Nat) (o : Owner) : (s.setOwner b o).inflightValid = s.inflightValid := State.setBuffer_inflightValid _ _ _
@[simp] theorem State.setOwner_inflightH (s : State) (b : Nat) (o : Owner) : (s.setOwner b o).inflightH = s.inflightH := State.setBuffer_inflightH _ _ _
@[simp] theorem State.setOwner_latchCnt (s : State) (b : Nat) (o : Owner) : (s.setOwner b o).latchCnt = s.latchCnt := State.setBuffer_latchCnt _ _ _
@[simp] theorem State.setOwner_done (s : State) (b : Nat) (o : Owner) : (s.setOwner b o).done = s.done := State.setBuffer_done _ _ _
@[simp] theorem State.setOwner_dmaSrc (s : State) (b : Nat) (o : Owner) : (s.setOwner b o).dmaSrc = s.dmaSrc := State.setBuffer_dmaSrc _ _ _
@[simp] theorem State.setOwner_dmaLen (s : State) (b : Nat) (o : Owner) : (s.setOwner b o).dmaLen = s.dmaLen := State.setBuffer_dmaLen _ _ _
@[simp] theorem State.setOwner_dmaIdx (s : State) (b : Nat) (o : Owner) : (s.setOwner b o).dmaIdx = s.dmaIdx := State.setBuffer_dmaIdx _ _ _
@[simp] theorem State.setOwner_dmaEn (s : State) (b : Nat) (o : Owner) : (s.setOwner b o).dmaEn = s.dmaEn := State.setBuffer_dmaEn _ _ _
@[simp] theorem State.setOwner_pwmPeriod (s : State) (b : Nat) (o : Owner) : (s.setOwner b o).pwmPeriod = s.pwmPeriod := State.setBuffer_pwmPeriod _ _ _
@[simp] theorem State.setOwner_pwmDuty (s : State) (b : Nat) (o : Owner) : (s.setOwner b o).pwmDuty = s.pwmDuty := State.setBuffer_pwmDuty _ _ _
@[simp] theorem State.setOwner_pwmRun (s : State) (b : Nat) (o : Owner) : (s.setOwner b o).pwmRun = s.pwmRun := State.setBuffer_pwmRun _ _ _
@[simp] theorem State.setOwner_tcPend (s : State) (b : Nat) (o : Owner) : (s.setOwner b o).tcPend = s.tcPend := State.setBuffer_tcPend _ _ _
@[simp] theorem State.setOwner_errPend (s : State) (b : Nat) (o : Owner) : (s.setOwner b o).errPend = s.errPend := State.setBuffer_errPend _ _ _
@[simp] theorem State.setOwner_pix (s : State) (b : Nat) (o : Owner) : (s.setOwner b o).pix = s.pix := State.setBuffer_pix _ _ _
@[simp] theorem State.setOwner_wave (s : State) (b : Nat) (o : Owner) : (s.setOwner b o).wave = s.wave := State.setBuffer_wave _ _ _
@[simp] theorem State.setOwner_ports (s : State) (b : Nat) (o : Owner) : (s.setOwner b o).ports = s.ports := State.setBuffer_ports _ _ _
@[simp] theorem State.setOwner_rsp (s : State) (b : Nat) (o : Owner) : (s.setOwner b o).rsp = s.rsp := State.setBuffer_rsp _ _ _
@[simp] theorem State.setOwner_sbData (s : State) (b : Nat) (o : Owner) : (s.setOwner b o).sbData = s.sbData := State.setBuffer_sbData _ _ _
@[simp] theorem State.setOwner_inbox (s : State) (b : Nat) (o : Owner) : (s.setOwner b o).inbox = s.inbox := State.setBuffer_inbox _ _ _
@[simp] theorem State.setOwner_moves (s : State) (b : Nat) (o : Owner) : (s.setOwner b o).moves = s.moves := State.setBuffer_moves _ _ _

/-! ### State.setLen -/

@[simp] theorem State.setLen_cfg (s : State) (b : Nat) (n : BitVec 32) : (s.setLen b n).cfg = s.cfg := State.setBuffer_cfg _ _ _
@[simp] theorem State.setLen_txState (s : State) (b : Nat) (n : BitVec 32) : (s.setLen b n).txState = s.txState := State.setBuffer_txState _ _ _
@[simp] theorem State.setLen_inflightValid (s : State) (b : Nat) (n : BitVec 32) : (s.setLen b n).inflightValid = s.inflightValid := State.setBuffer_inflightValid _ _ _
@[simp] theorem State.setLen_inflightH (s : State) (b : Nat) (n : BitVec 32) : (s.setLen b n).inflightH = s.inflightH := State.setBuffer_inflightH _ _ _
@[simp] theorem State.setLen_latchCnt (s : State) (b : Nat) (n : BitVec 32) : (s.setLen b n).latchCnt = s.latchCnt := State.setBuffer_latchCnt _ _ _
@[simp] theorem State.setLen_done (s : State) (b : Nat) (n : BitVec 32) : (s.setLen b n).done = s.done := State.setBuffer_done _ _ _
@[simp] theorem State.setLen_dmaSrc (s : State) (b : Nat) (n : BitVec 32) : (s.setLen b n).dmaSrc = s.dmaSrc := State.setBuffer_dmaSrc _ _ _
@[simp] theorem State.setLen_dmaLen (s : State) (b : Nat) (n : BitVec 32) : (s.setLen b n).dmaLen = s.dmaLen := State.setBuffer_dmaLen _ _ _
@[simp] theorem State.setLen_dmaIdx (s : State) (b : Nat) (n : BitVec 32) : (s.setLen b n).dmaIdx = s.dmaIdx := State.setBuffer_dmaIdx _ _ _
@[simp] theorem State.setLen_dmaEn (s : State) (b : Nat) (n : BitVec 32) : (s.setLen b n).dmaEn = s.dmaEn := State.setBuffer_dmaEn _ _ _
@[simp] theorem State.setLen_pwmPeriod (s : State) (b : Nat) (n : BitVec 32) : (s.setLen b n).pwmPeriod = s.pwmPeriod := State.setBuffer_pwmPeriod _ _ _
@[simp] theorem State.setLen_pwmDuty (s : State) (b : Nat) (n : BitVec 32) : (s.setLen b n).pwmDuty = s.pwmDuty := State.setBuffer_pwmDuty _ _ _
@[simp] theorem State.setLen_pwmRun (s : State) (b : Nat) (n : BitVec 32) : (s.setLen b n).pwmRun = s.pwmRun := State.setBuffer_pwmRun _ _ _
@[simp] theorem State.setLen_tcPend (s : State) (b : Nat) (n : BitVec 32) : (s.setLen b n).tcPend = s.tcPend := State.setBuffer_tcPend _ _ _
@[simp] theorem State.setLen_errPend (s : State) (b : Nat) (n : BitVec 32) : (s.setLen b n).errPend = s.errPend := State.setBuffer_errPend _ _ _
@[simp] theorem State.setLen_pix (s : State) (b : Nat) (n : BitVec 32) : (s.setLen b n).pix = s.pix := State.setBuffer_pix _ _ _
@[simp] theorem State.setLen_wave (s : State) (b : Nat) (n : BitVec 32) : (s.setLen b n).wave = s.wave := State.setBuffer_wave _ _ _
@[simp] theorem State.setLen_ports (s : State) (b : Nat) (n : BitVec 32) : (s.setLen b n).ports = s.ports := State.setBuffer_ports _ _ _
@[simp] theorem State.setLen_rsp (s : State) (b : Nat) (n : BitVec 32) : (s.setLen b n).rsp = s.rsp := State.setBuffer_rsp _ _ _
@[simp] theorem State.setLen_sbData (s : State) (b : Nat) (n : BitVec 32) : (s.setLen b n).sbData = s.sbData := State.setBuffer_sbData _ _ _
@[simp] theorem State.setLen_inbox (s : State) (b : Nat) (n : BitVec 32) : (s.setLen b n).inbox = s.inbox := State.setBuffer_inbox _ _ _
@[simp] theorem State.setLen_moves (s : State) (b : Nat) (n : BitVec 32) : (s.setLen b n).moves = s.moves := State.setBuffer_moves _ _ _

/-! ### State.encodeInto -/

@[simp] theorem State.encodeInto_cfg (s : State) (n w : Nat) : (s.encodeInto n w).cfg = s.cfg := State.setBuffer_cfg _ _ _
@[simp] theorem State.encodeInto_txState (s : State) (n w : Nat) : (s.encodeInto n w).txState = s.txState := State.setBuffer_txState _ _ _
@[simp] theorem State.encodeInto_inflightValid (s : State) (n w : Nat) : (s.encodeInto n w).inflightValid = s.inflightValid := State.setBuffer_inflightValid _ _ _
@[simp] theorem State.encodeInto_inflightH (s : State) (n w : Nat) : (s.encodeInto n w).inflightH = s.inflightH := State.setBuffer_inflightH _ _ _
@[simp] theorem State.encodeInto_latchCnt (s : State) (n w : Nat) : (s.encodeInto n w).latchCnt = s.latchCnt := State.setBuffer_latchCnt _ _ _
@[simp] theorem State.encodeInto_done (s : State) (n w : Nat) : (s.encodeInto n w).done = s.done := State.setBuffer_done _ _ _
@[simp] theorem State.encodeInto_dmaSrc (s : State) (n w : Nat) : (s.encodeInto n w).dmaSrc = s.dmaSrc := State.setBuffer_dmaSrc _ _ _
@[simp] theorem State.encodeInto_dmaLen (s : State) (n w : Nat) : (s.encodeInto n w).dmaLen = s.dmaLen := State.setBuffer_dmaLen _ _ _
@[simp] theorem State.encodeInto_dmaIdx (s : State) (n w : Nat) : (s.encodeInto n w).dmaIdx = s.dmaIdx := State.setBuffer_dmaIdx _ _ _
@[simp] theorem State.encodeInto_dmaEn (s : State) (n w : Nat) : (s.encodeInto n w).dmaEn = s.dmaEn := State.setBuffer_dmaEn _ _ _
@[simp] theorem State.encodeInto_pwmPeriod (s : State) (n w : Nat) : (s.encodeInto n w).pwmPeriod = s.pwmPeriod := State.setBuffer_pwmPeriod _ _ _
@[simp] theorem State.encodeInto_pwmDuty (s : State) (n w : Nat) : (s.encodeInto n w).pwmDuty = s.pwmDuty := State.setBuffer_pwmDuty _ _ _
@[simp] theorem State.encodeInto_pwmRun (s : State) (n w : Nat) : (s.encodeInto n w).pwmRun = s.pwmRun := State.setBuffer_pwmRun _ _ _
@[simp] theorem State.encodeInto_tcPend (s : State) (n w : Nat) : (s.encodeInto n w).tcPend = s.tcPend := State.setBuffer_tcPend _ _ _
@[simp] theorem State.encodeInto_errPend (s : State) (n w : Nat) : (s.encodeInto n w).errPend = s.errPend := State.setBuffer_errPend _ _ _
@[simp] theorem State.encodeInto_pix (s : State) (n w : Nat) : (s.encodeInto n w).pix = s.pix := State.setBuffer_pix _ _ _
@[simp] theorem State.encodeInto_wave (s : State) (n w : Nat) : (s.encodeInto n w).wave = s.wave := State.setBuffer_wave _ _ _
@[simp] theorem State.encodeInto_ports (s : State) (n w : Nat) : (s.encodeInto n w).ports = s.ports := State.setBuffer_ports _ _ _
@[simp] theorem State.encodeInto_rsp (s : State) (n w : Nat) : (s.encodeInto n w).rsp = s.rsp := State.setBuffer_rsp _ _ _
@[simp] theorem State.encodeInto_sbData (s : State) (n w : Nat) : (s.encodeInto n w).sbData = s.sbData := State.setBuffer_sbData _ _ _
@[simp] theorem State.encodeInto_inbox (s : State) (n w : Nat) : (s.encodeInto n w).inbox = s.inbox := State.setBuffer_inbox _ _ _
@[simp] theorem State.encodeInto_moves (s : State) (n w : Nat) : (s.encodeInto n w).moves = s.moves := State.setBuffer_moves _ _ _

/-! ### State.prepareFrame -/

@[simp] theorem State.prepareFrame_cfg (s : State) (n w : Nat) : (s.prepareFrame n w).cfg = s.cfg := by
  simp [State.prepareFrame]
@[simp] theorem State.prepareFrame_txState (s : State) (n w : Nat) : (s.prepareFrame n w).txState = s.txState := by
  simp [State.prepareFrame]
@[simp] theorem State.prepareFrame_inflightValid (s : State) (n w : Nat) : (s.prepareFrame n w).inflightValid = s.inflightValid := by
  simp [State.prepareFrame]
@[simp] theorem State.prepareFrame_inflightH (s : State) (n w : Nat) : (s.prepareFrame n w).inflightH = s.inflightH := by
  simp [State.prepareFrame]
@[simp] theorem State.prepareFrame_latchCnt (s : State) (n w : Nat) : (s.prepareFrame n w).latchCnt = s.latchCnt := by
  simp [State.prepareFrame]
@[simp] theorem State.prepareFrame_done (s : State) (n w : Nat) : (s.prepareFrame n w).done = s.done := by
  simp [State.prepareFrame]
@[simp] theorem State.prepareFrame_dmaSrc (s : State) (n w : Nat) : (s.prepareFrame n w).dmaSrc = s.dmaSrc := by
  simp [State.prepareFrame]
@[simp] theorem State.prepareFrame_dmaLen (s : State) (n w : Nat) : (s.prepareFrame n w).dmaLen = s.dmaLen := by
  simp [State.prepareFrame]
@[simp] theorem State.prepareFrame_dmaIdx (s : State) (n w : Nat) : (s.prepareFrame n w).dmaIdx = s.dmaIdx := by
  simp [State.prepareFrame]
@[simp] theorem State.prepareFrame_dmaEn (s : State) (n w : Nat) : (s.prepareFrame n w).dmaEn = s.dmaEn := by
  simp [State.prepareFrame]
@[simp] theorem State.prepareFrame_pwmPeriod (s : State) (n w : Nat) : (s.prepareFrame n w).pwmPeriod = s.pwmPeriod := by
  simp [State.prepareFrame]
@[simp] theorem State.prepareFrame_pwmDuty (s : State) (n w : Nat) : (s.prepareFrame n w).pwmDuty = s.pwmDuty := by
  simp [State.prepareFrame]
@[simp] theorem State.prepareFrame_pwmRun (s : State) (n w : Nat) : (s.prepareFrame n w).pwmRun = s.pwmRun := by
  simp [State.prepareFrame]
@[simp] theorem State.prepareFrame_tcPend (s : State) (n w : Nat) : (s.prepareFrame n w).tcPend = s.tcPend := by
  simp [State.prepareFrame]
@[simp] theorem State.prepareFrame_errPend (s : State) (n w : Nat) : (s.prepareFrame n w).errPend = s.errPend := by
  simp [State.prepareFrame]
@[simp] theorem State.prepareFrame_pix (s : State) (n w : Nat) : (s.prepareFrame n w).pix = s.pix := by
  simp [State.prepareFrame]
@[simp] theorem State.prepareFrame_wave (s : State) (n w : Nat) : (s.prepareFrame n w).wave = s.wave := by
  simp [State.prepareFrame]
@[simp] theorem State.prepareFrame_ports (s : State) (n w : Nat) : (s.prepareFrame n w).ports = s.ports := by
  simp [State.prepareFrame]
@[simp] theorem State.prepareFrame_rsp (s : State) (n w : Nat) : (s.prepareFrame n w).rsp = s.rsp := by
  simp [State.prepareFrame]
@[simp] theorem State.prepareFrame_sbData (s : State) (n w : Nat) : (s.prepareFrame n w).sbData = s.sbData := by
  simp [State.prepareFrame]
@[simp] theorem State.prepareFrame_inbox (s : State) (n w : Nat) : (s.prepareFrame n w).inbox = s.inbox := by
  simp [State.prepareFrame]
@[simp] theorem State.prepareFrame_moves (s : State) (n w : Nat) : (s.prepareFrame n w).moves = s.moves := by
  simp [State.prepareFrame]

/-! ### State.armBuffer -/

@[simp] theorem State.armBuffer_cfg (s : State) (h : Nat) : (s.armBuffer h).cfg = s.cfg := State.setOwner_cfg _ _ _
@[simp] theorem State.armBuffer_txState (s : State) (h : Nat) : (s.armBuffer h).txState = .arming := rfl
@[simp] theorem State.armBuffer_inflightValid (s : State) (h : Nat) : (s.armBuffer h).inflightValid = true := rfl
@[simp] theorem State.armBuffer_inflightH (s : State) (h : Nat) : (s.armBuffer h).inflightH = BitVec.ofNat 1 h := rfl
@[simp] theorem State.armBuffer_latchCnt (s : State) (h : Nat) : (s.armBuffer h).latchCnt = s.latchCnt := State.setOwner_latchCnt _ _ _
@[simp] theorem State.armBuffer_done (s : State) (h : Nat) : (s.armBuffer h).done = false := rfl
@[simp] theorem State.armBuffer_dmaSrc (s : State) (h : Nat) : (s.armBuffer h).dmaSrc = BitVec.ofNat 1 h := rfl
@[simp] theorem State.armBuffer_dmaLen (s : State) (h : Nat) : (s.armBuffer h).dmaLen = s.sbLen h := rfl
@[simp] theorem State.armBuffer_dmaIdx (s : State) (h : Nat) : (s.armBuffer h).dmaIdx = 0#32 := rfl
@[simp] theorem State.armBuffer_dmaEn (s : State) (h : Nat) : (s.armBuffer h).dmaEn = s.dmaEn := State.setOwner_dmaEn _ _ _
@[simp] theorem State.armBuffer_pwmPeriod (s : State) (h : Nat) : (s.armBuffer h).pwmPeriod = s.pwmPeriod := State.setOwner_pwmPeriod _ _ _
@[simp] theorem State.armBuffer_pwmDuty (s : State) (h : Nat) : (s.armBuffer h).pwmDuty = s.pwmDuty := State.setOwner_pwmDuty _ _ _
@[simp] theorem State.armBuffer_pwmRun (s : State) (h : Nat) : (s.armBuffer h).pwmRun = s.pwmRun := State.setOwner_pwmRun _ _ _
@[simp] theorem State.armBuffer_tcPend (s : State) (h : Nat) : (s.armBuffer h).tcPend = false := rfl
@[simp] theorem State.armBuffer_errPend (s : State) (h : Nat) : (s.armBuffer h).errPend = s.errPend := State.setOwner_errPend _ _ _
@[simp] theorem State.armBuffer_pix (s : State) (h : Nat) : (s.armBuffer h).pix = s.pix := State.setOwner_pix _ _ _
@[simp] theorem State.armBuffer_wave (s : State) (h : Nat) : (s.armBuffer h).wave = s.wave := State.setOwner_wave _ _ _
@[simp] theorem State.armBuffer_ports (s : State) (h : Nat) : (s.armBuffer h).ports = s.ports := State.setOwner_ports _ _ _
@[simp] theorem State.armBuffer_rsp (s : State) (h : Nat) : (s.armBuffer h).rsp = s.rsp := State.setOwner_rsp _ _ _
@[simp] theorem State.armBuffer_sbData (s : State) (h : Nat) : (s.armBuffer h).sbData = s.sbData := State.setOwner_sbData _ _ _
@[simp] theorem State.armBuffer_inbox (s : State) (h : Nat) : (s.armBuffer h).inbox = s.inbox := State.setOwner_inbox _ _ _
@[simp] theorem State.armBuffer_moves (s : State) (h : Nat) : (s.armBuffer h).moves = s.moves := State.setOwner_moves _ _ _

/-! ### State.enterFaulted -/

@[simp] theorem State.enterFaulted_cfg (s : State) : (s.enterFaulted).cfg = s.cfg := by
  unfold State.enterFaulted; split <;> simp
@[simp] theorem State.enterFaulted_txState (s : State) : (s.enterFaulted).txState = .faulted := by
  unfold State.enterFaulted; split <;> simp
@[simp] theorem State.enterFaulted_inflightValid (s : State) : (s.enterFaulted).inflightValid = false := by
  unfold State.enterFaulted; split <;> simp
@[simp] theorem State.enterFaulted_inflightH (s : State) : (s.enterFaulted).inflightH = s.inflightH := by
  unfold State.enterFaulted; split <;> simp
@[simp] theorem State.enterFaulted_latchCnt (s : State) : (s.enterFaulted).latchCnt = 0#32 := by
  unfold State.enterFaulted; split <;> simp
@[simp] theorem State.enterFaulted_done (s : State) : (s.enterFaulted).done = s.done := by
  unfold State.enterFaulted; split <;> simp
@[simp] theorem State.enterFaulted_dmaSrc (s : State) : (s.enterFaulted).dmaSrc = s.dmaSrc := by
  unfold State.enterFaulted; split <;> simp
@[simp] theorem State.enterFaulted_dmaLen (s : State) : (s.enterFaulted).dmaLen = s.dmaLen := by
  unfold State.enterFaulted; split <;> simp
@[simp] theorem State.enterFaulted_dmaIdx (s : State) : (s.enterFaulted).dmaIdx = s.dmaIdx := by
  unfold State.enterFaulted; split <;> simp
@[simp] theorem State.enterFaulted_dmaEn (s : State) : (s.enterFaulted).dmaEn = false := by
  unfold State.enterFaulted; split <;> simp
@[simp] theorem State.enterFaulted_pwmPeriod (s : State) : (s.enterFaulted).pwmPeriod = s.pwmPeriod := by
  unfold State.enterFaulted; split <;> simp
@[simp] theorem State.enterFaulted_pwmDuty (s : State) : (s.enterFaulted).pwmDuty = 0#16 := by
  unfold State.enterFaulted; split <;> simp
@[simp] theorem State.enterFaulted_pwmRun (s : State) : (s.enterFaulted).pwmRun = false := by
  unfold State.enterFaulted; split <;> simp
@[simp] theorem State.enterFaulted_tcPend (s : State) : (s.enterFaulted).tcPend = false := by
  unfold State.enterFaulted; split <;> simp
@[simp] theorem State.enterFaulted_errPend (s : State) : (s.enterFaulted).errPend = false := by
  unfold State.enterFaulted; split <;> simp
@[simp] theorem State.enterFaulted_pix (s : State) : (s.enterFaulted).pix = s.pix := by
  unfold State.enterFaulted; split <;> simp
@[simp] theorem State.enterFaulted_wave (s : State) : (s.enterFaulted).wave = s.wave := by
  unfold State.enterFaulted; split <;> simp
@[simp] theorem State.enterFaulted_ports (s : State) : (s.enterFaulted).ports = s.ports := by
  unfold State.enterFaulted; split <;> simp
@[simp] theorem State.enterFaulted_rsp (s : State) : (s.enterFaulted).rsp = s.rsp := by
  unfold State.enterFaulted; split <;> simp
@[simp] theorem State.enterFaulted_sbData (s : State) : (s.enterFaulted).sbData = s.sbData := by
  unfold State.enterFaulted; split <;> simp
@[simp] theorem State.enterFaulted_inbox (s : State) : (s.enterFaulted).inbox = s.inbox := by
  unfold State.enterFaulted; split <;> simp
@[simp] theorem State.enterFaulted_moves (s : State) : (s.enterFaulted).moves = s.moves := by
  unfold State.enterFaulted; split <;> simp

/-! ### State.releaseAll -/

@[simp] theorem State.releaseAll_cfg (s : State) : (s.releaseAll).cfg = s.cfg := rfl
@[simp] theorem State.releaseAll_txState (s : State) : (s.releaseAll).txState = s.txState := rfl
@[simp] theorem State.releaseAll_inflightValid (s : State) : (s.releaseAll).inflightValid = s.inflightValid := rfl
@[simp] theorem State.releaseAll_inflightH (s : State) : (s.releaseAll).inflightH = s.inflightH := rfl
@[simp] theorem State.releaseAll_latchCnt (s : State) : (s.releaseAll).latchCnt = s.latchCnt := rfl
@[simp] theorem State.releaseAll_done (s : State) : (s.releaseAll).done = s.done := rfl
@[simp] theorem State.releaseAll_sb0 (s : State) : (s.releaseAll).sb0 = { s.sb0 with owner := .writable } := rfl
@[simp] theorem State.releaseAll_sb1 (s : State) : (s.releaseAll).sb1 = if s.cfg.double then { s.sb1 with owner := .writable } else s.sb1 := rfl
@[simp] theorem State.releaseAll_dmaSrc (s : State) : (s.releaseAll).dmaSrc = s.dmaSrc := rfl
@[simp] theorem State.releaseAll_dmaLen (s : State) : (s.releaseAll).dmaLen = s.dmaLen := rfl
@[simp] theorem State.releaseAll_dmaIdx (s : State) : (s.releaseAll).dmaIdx = s.dmaIdx := rfl
@[simp] theorem State.releaseAll_dmaEn (s : State) : (s.releaseAll).dmaEn = s.dmaEn := rfl
@[simp] theorem State.releaseAll_pwmPeriod (s : State) : (s.releaseAll).pwmPeriod = s.pwmPeriod := rfl
@[simp] theorem State.releaseAll_pwmDuty (s : State) : (s.releaseAll).pwmDuty = s.pwmDuty := rfl
@[simp] theorem State.releaseAll_pwmRun (s : State) : (s.releaseAll).pwmRun = s.pwmRun := rfl
@[simp] theorem State.releaseAll_tcPend (s : State) : (s.releaseAll).tcPend = s.tcPend := rfl
@[simp] theorem State.releaseAll_errPend (s : State) : (s.releaseAll).errPend = s.errPend := rfl
@[simp] theorem State.releaseAll_pix (s : State) : (s.releaseAll).pix = s.pix := rfl
@[simp] theorem State.releaseAll_wave (s : State) : (s.releaseAll).wave = s.wave := rfl
@[simp] theorem State.releaseAll_ports (s : State) : (s.releaseAll).ports = s.ports := rfl
@[simp] theorem State.releaseAll_rsp (s : State) : (s.releaseAll).rsp = s.rsp := rfl
@[simp] theorem State.releaseAll_sbData (s : State) : (s.releaseAll).sbData = s.sbData := rfl
@[simp] theorem State.releaseAll_inbox (s : State) : (s.releaseAll).inbox = s.inbox := rfl
@[simp] theorem State.releaseAll_moves (s : State) : (s.releaseAll).moves = s.moves := rfl

/-! ### State.forceIdle -/

@[simp] theorem State.forceIdle_cfg (s : State) : (s.forceIdle).cfg = s.cfg := rfl
@[simp] theorem State.forceIdle_txState (s : State) : (s.forceIdle).txState = .idle := rfl
@[simp] theorem State.forceIdle_inflightValid (s : State) : (s.forceIdle).inflightValid = false := rfl
@[simp] theorem State.forceIdle_inflightH (s : State) : (s.forceIdle).inflightH = s.inflightH := rfl
@[simp] theorem State.forceIdle_latchCnt (s : State) : (s.forceIdle).latchCnt = 0#32 := rfl
@[simp] theorem State.forceIdle_done (s : State) : (s.forceIdle).done = false := rfl
@[simp] theorem State.forceIdle_sb0 (s : State) : (s.forceIdle).sb0 = { s.sb0 with owner := .writable } := rfl
@[simp] theorem State.forceIdle_sb1 (s : State) : (s.forceIdle).sb1 = if s.cfg.double then { s.sb1 with owner := .writable } else s.sb1 := rfl
@[simp] theorem State.forceIdle_dmaSrc (s : State) : (s.forceIdle).dmaSrc = s.dmaSrc := rfl
@[simp] theorem State.forceIdle_dmaLen (s : State) : (s.forceIdle).dmaLen = s.dmaLen := rfl
@[simp] theorem State.forceIdle_dmaIdx (s : State) : (s.forceIdle).dmaIdx = s.dmaIdx := rfl
@[simp] theorem State.forceIdle_dmaEn (s : State) : (s.forceIdle).dmaEn = false := rfl
@[simp] theorem State.forceIdle_pwmPeriod (s : State) : (s.forceIdle).pwmPeriod = s.pwmPeriod := rfl
@[simp] theorem State.forceIdle_pwmDuty (s : State) : (s.forceIdle).pwmDuty = 0#16 := rfl
@[simp] theorem State.forceIdle_pwmRun (s : State) : (s.forceIdle).pwmRun = false := rfl
@[simp] theorem State.forceIdle_tcPend (s : State) : (s.forceIdle).tcPend = false := rfl
@[simp] theorem State.forceIdle_errPend (s : State) : (s.forceIdle).errPend = false := rfl
@[simp] theorem State.forceIdle_pix (s : State) : (s.forceIdle).pix = s.pix := rfl
@[simp] theorem State.forceIdle_wave (s : State) : (s.forceIdle).wave = s.wave := rfl
@[simp] theorem State.forceIdle_ports (s : State) : (s.forceIdle).ports = s.ports := rfl
@[simp] theorem State.forceIdle_rsp (s : State) : (s.forceIdle).rsp = s.rsp := rfl
@[simp] theorem State.forceIdle_sbData (s : State) : (s.forceIdle).sbData = s.sbData := rfl
@[simp] theorem State.forceIdle_inbox (s : State) : (s.forceIdle).inbox = s.inbox := rfl
@[simp] theorem State.forceIdle_moves (s : State) : (s.forceIdle).moves = s.moves := rfl

/-! ### State.cancelLatch -/

@[simp] theorem State.cancelLatch_cfg (s : State) : (s.cancelLatch).cfg = s.cfg := State.setOwner_cfg _ _ _
@[simp] theorem State.cancelLatch_txState (s : State) : (s.cancelLatch).txState = .idle := rfl
@[simp] theorem State.cancelLatch_inflightValid (s : State) : (s.cancelLatch).inflightValid = false := rfl
@[simp] theorem State.cancelLatch_inflightH (s : State) : (s.cancelLatch).inflightH = s.inflightH := State.setOwner_inflightH _ _ _
@[simp] theorem State.cancelLatch_latchCnt (s : State) : (s.cancelLatch).latchCnt = 0#32 := rfl
@[simp] theorem State.cancelLatch_done (s : State) : (s.cancelLatch).done = s.done := State.setOwner_done _ _ _
@[simp] theorem State.cancelLatch_dmaSrc (s : State) : (s.cancelLatch).dmaSrc = s.dmaSrc := State.setOwner_dmaSrc _ _ _
@[simp] theorem State.cancelLatch_dmaLen (s : State) : (s.cancelLatch).dmaLen = s.dmaLen := State.setOwner_dmaLen _ _ _
@[simp] theorem State.cancelLatch_dmaIdx (s : State) : (s.cancelLatch).dmaIdx = s.dmaIdx := State.setOwner_dmaIdx _ _ _
@[simp] theorem State.cancelLatch_dmaEn (s : State) : (s.cancelLatch).dmaEn = s.dmaEn := State.setOwner_dmaEn _ _ _
@[simp] theorem State.cancelLatch_pwmPeriod (s : State) : (s.cancelLatch).pwmPeriod = s.pwmPeriod := State.setOwner_pwmPeriod _ _ _
@[simp] theorem State.cancelLatch_pwmDuty (s : State) : (s.cancelLatch).pwmDuty = 0#16 := rfl
@[simp] theorem State.cancelLatch_pwmRun (s : State) : (s.cancelLatch).pwmRun = false := rfl
@[simp] theorem State.cancelLatch_tcPend (s : State) : (s.cancelLatch).tcPend = s.tcPend := State.setOwner_tcPend _ _ _
@[simp] theorem State.cancelLatch_errPend (s : State) : (s.cancelLatch).errPend = s.errPend := State.setOwner_errPend _ _ _
@[simp] theorem State.cancelLatch_pix (s : State) : (s.cancelLatch).pix = s.pix := State.setOwner_pix _ _ _
@[simp] theorem State.cancelLatch_wave (s : State) : (s.cancelLatch).wave = s.wave := State.setOwner_wave _ _ _
@[simp] theorem State.cancelLatch_ports (s : State) : (s.cancelLatch).ports = s.ports := State.setOwner_ports _ _ _
@[simp] theorem State.cancelLatch_rsp (s : State) : (s.cancelLatch).rsp = s.rsp := State.setOwner_rsp _ _ _
@[simp] theorem State.cancelLatch_sbData (s : State) : (s.cancelLatch).sbData = s.sbData := State.setOwner_sbData _ _ _
@[simp] theorem State.cancelLatch_inbox (s : State) : (s.cancelLatch).inbox = s.inbox := State.setOwner_inbox _ _ _
@[simp] theorem State.cancelLatch_moves (s : State) : (s.cancelLatch).moves = s.moves := State.setOwner_moves _ _ _

/-! ### State.configure -/

@[simp] theorem State.configure_cfg (s : State) : (s.configure).cfg = s.ports.toRegs := rfl
@[simp] theorem State.configure_txState (s : State) : (s.configure).txState = .idle := rfl
@[simp] theorem State.configure_inflightValid (s : State) : (s.configure).inflightValid = false := rfl
@[simp] theorem State.configure_inflightH (s : State) : (s.configure).inflightH = 0#1 := rfl
@[simp] theorem State.configure_latchCnt (s : State) : (s.configure).latchCnt = 0#32 := rfl
@[simp] theorem State.configure_done (s : State) : (s.configure).done = false := rfl
@[simp] theorem State.configure_sb0 (s : State) : (s.configure).sb0 = { s.sb0 with owner := .writable, len := 0#32 } := rfl
@[simp] theorem State.configure_sb1 (s : State) : (s.configure).sb1 = if s.ports.double then { s.sb1 with owner := .writable, len := 0#32 } else s.sb1 := rfl
@[simp] theorem State.configure_dmaSrc (s : State) : (s.configure).dmaSrc = 0#1 := rfl
@[simp] theorem State.configure_dmaLen (s : State) : (s.configure).dmaLen = 0#32 := rfl
@[simp] theorem State.configure_dmaIdx (s : State) : (s.configure).dmaIdx = 0#32 := rfl
@[simp] theorem State.configure_dmaEn (s : State) : (s.configure).dmaEn = false := rfl
@[simp] theorem State.configure_pwmPeriod (s : State) : (s.configure).pwmPeriod = s.ports.spec.bitPeriod := rfl
@[simp] theorem State.configure_pwmDuty (s : State) : (s.configure).pwmDuty = 0#16 := rfl
@[simp] theorem State.configure_pwmRun (s : State) : (s.configure).pwmRun = false := rfl
@[simp] theorem State.configure_tcPend (s : State) : (s.configure).tcPend = false := rfl
@[simp] theorem State.configure_errPend (s : State) : (s.configure).errPend = false := rfl
@[simp] theorem State.configure_pix (s : State) : (s.configure).pix = s.pix := rfl
@[simp] theorem State.configure_wave (s : State) : (s.configure).wave = [] := rfl
@[simp] theorem State.configure_ports (s : State) : (s.configure).ports = s.ports := rfl
@[simp] theorem State.configure_rsp (s : State) : (s.configure).rsp = s.rsp := rfl
@[simp] theorem State.configure_sbData (s : State) : (s.configure).sbData = s.sbData := rfl
@[simp] theorem State.configure_inbox (s : State) : (s.configure).inbox = s.inbox := rfl
@[simp] theorem State.configure_moves (s : State) : (s.configure).moves = s.moves := rfl

/-! ### State.pixWrite -/

@[simp] theorem State.pixWrite_cfg (s : State) (i : BitVec 16) (w : Pixel) : (s.pixWrite i w).cfg = s.cfg := rfl
@[simp] theorem State.pixWrite_txState (s : State) (i : BitVec 16) (w : Pixel) : (s.pixWrite i w).txState = s.txState := rfl
@[simp] theorem State.pixWrite_inflightValid (s : State) (i : BitVec 16) (w : Pixel) : (s.pixWrite i w).inflightValid = s.inflightValid := rfl
@[simp] theorem State.pixWrite_inflightH (s : State) (i : BitVec 16) (w : Pixel) : (s.pixWrite i w).inflightH = s.inflightH := rfl
@[simp] theorem State.pixWrite_latchCnt (s : State) (i : BitVec 16) (w : Pixel) : (s.pixWrite i w).latchCnt = s.latchCnt := rfl
@[simp] theorem State.pixWrite_done (s : State) (i : BitVec 16) (w : Pixel) : (s.pixWrite i w).done = s.done := rfl
@[simp] theorem State.pixWrite_sb0 (s : State) (i : BitVec 16) (w : Pixel) : (s.pixWrite i w).sb0 = s.sb0 := rfl
@[simp] theorem State.pixWrite_sb1 (s : State) (i : BitVec 16) (w : Pixel) : (s.pixWrite i w).sb1 = s.sb1 := rfl
@[simp] theorem State.pixWrite_dmaSrc (s : State) (i : BitVec 16) (w : Pixel) : (s.pixWrite i w).dmaSrc = s.dmaSrc := rfl
@[simp] theorem State.pixWrite_dmaLen (s : State) (i : BitVec 16) (w : Pixel) : (s.pixWrite i w).dmaLen = s.dmaLen := rfl
@[simp] theorem State.pixWrite_dmaIdx (s : State) (i : BitVec 16) (w : Pixel) : (s.pixWrite i w).dmaIdx = s.dmaIdx := rfl
@[simp] theorem State.pixWrite_dmaEn (s : State) (i : BitVec 16) (w : Pixel) : (s.pixWrite i w).dmaEn = s.dmaEn := rfl
@[simp] theorem State.pixWrite_pwmPeriod (s : State) (i : BitVec 16) (w : Pixel) : (s.pixWrite i w).pwmPeriod = s.pwmPeriod := rfl
@[simp] theorem State.pixWrite_pwmDuty (s : State) (i : BitVec 16) (w : Pixel) : (s.pixWrite i w).pwmDuty = s.pwmDuty := rfl
@[simp] theorem State.pixWrite_pwmRun (s : State) (i : BitVec 16) (w : Pixel) : (s.pixWrite i w).pwmRun = s.pwmRun := rfl
@[simp] theorem State.pixWrite_tcPend (s : State) (i : BitVec 16) (w : Pixel) : (s.pixWrite i w).tcPend = s.tcPend := rfl
@[simp] theorem State.pixWrite_errPend (s : State) (i : BitVec 16) (w : Pixel) : (s.pixWrite i w).errPend = s.errPend := rfl
@[simp] theorem State.pixWrite_pix (s : State) (i : BitVec 16) (w : Pixel) : (s.pixWrite i w).pix = Mem.write s.pix i.toNat w := rfl
@[simp] theorem State.pixWrite_wave (s : State) (i : BitVec 16) (w : Pixel) : (s.pixWrite i w).wave = s.wave := rfl
@[simp] theorem State.pixWrite_ports (s : State) (i : BitVec 16) (w : Pixel) : (s.pixWrite i w).ports = s.ports := rfl
@[simp] theorem State.pixWrite_rsp (s : State) (i : BitVec 16) (w : Pixel) : (s.pixWrite i w).rsp = s.rsp := rfl
@[simp] theorem State.pixWrite_sbData (s : State) (i : BitVec 16) (w : Pixel) : (s.pixWrite i w).sbData = s.sbData := rfl
@[simp] theorem State.pixWrite_inbox (s : State) (i : BitVec 16) (w : Pixel) : (s.pixWrite i w).inbox = s.inbox := rfl
@[simp] theorem State.pixWrite_moves (s : State) (i : BitVec 16) (w : Pixel) : (s.pixWrite i w).moves = s.moves := rfl

/-! ### State.sbRead -/

@[simp] theorem State.sbRead_cfg (s : State) (b : BitVec 1) (i : BitVec 32) : (s.sbRead b i).cfg = s.cfg := rfl
@[simp] theorem State.sbRead_txState (s : State) (b : BitVec 1) (i : BitVec 32) : (s.sbRead b i).txState = s.txState := rfl
@[simp] theorem State.sbRead_inflightValid (s : State) (b : BitVec 1) (i : BitVec 32) : (s.sbRead b i).inflightValid = s.inflightValid := rfl
@[simp] theorem State.sbRead_inflightH (s : State) (b : BitVec 1) (i : BitVec 32) : (s.sbRead b i).inflightH = s.inflightH := rfl
@[simp] theorem State.sbRead_latchCnt (s : State) (b : BitVec 1) (i : BitVec 32) : (s.sbRead b i).latchCnt = s.latchCnt := rfl
@[simp] theorem State.sbRead_done (s : State) (b : BitVec 1) (i : BitVec 32) : (s.sbRead b i).done = s.done := rfl
@[simp] theorem State.sbRead_sb0 (s : State) (b : BitVec 1) (i : BitVec 32) : (s.sbRead b i).sb0 = s.sb0 := rfl
@[simp] theorem State.sbRead_sb1 (s : State) (b : BitVec 1) (i : BitVec 32) : (s.sbRead b i).sb1 = s.sb1 := rfl
@[simp] theorem State.sbRead_dmaSrc (s : State) (b : BitVec 1) (i : BitVec 32) : (s.sbRead b i).dmaSrc = s.dmaSrc := rfl
@[simp] theorem State.sbRead_dmaLen (s : State) (b : BitVec 1) (i : BitVec 32) : (s.sbRead b i).dmaLen = s.dmaLen := rfl
@[simp] theorem State.sbRead_dmaIdx (s : State) (b : BitVec 1) (i : BitVec 32) : (s.sbRead b i).dmaIdx = s.dmaIdx := rfl
@[simp] theorem State.sbRead_dmaEn (s : State) (b : BitVec 1) (i : BitVec 32) : (s.sbRead b i).dmaEn = s.dmaEn := rfl
@[simp] theorem State.sbRead_pwmPeriod (s : State) (b : BitVec 1) (i : BitVec 32) : (s.sbRead b i).pwmPeriod = s.pwmPeriod := rfl
@[simp] theorem State.sbRead_pwmDuty (s : State) (b : BitVec 1) (i : BitVec 32) : (s.sbRead b i).pwmDuty = s.pwmDuty := rfl
@[simp] theorem State.sbRead_pwmRun (s : State) (b : BitVec 1) (i : BitVec 32) : (s.sbRead b i).pwmRun = s.pwmRun := rfl
@[simp] theorem State.sbRead_tcPend (s : State) (b : BitVec 1) (i : BitVec 32) : (s.sbRead b i).tcPend = s.tcPend := rfl
@[simp] theorem State.sbRead_errPend (s : State) (b : BitVec 1) (i : BitVec 32) : (s.sbRead b i).errPend = s.errPend := rfl
@[simp] theorem State.sbRead_pix (s : State) (b : BitVec 1) (i : BitVec 32) : (s.sbRead b i).pix = s.pix := rfl
@[simp] theorem State.sbRead_wave (s : State) (b : BitVec 1) (i : BitVec 32) : (s.sbRead b i).wave = s.wave := rfl
@[simp] theorem State.sbRead_ports (s : State) (b : BitVec 1) (i : BitVec 32) : (s.sbRead b i).ports = s.ports := rfl
@[simp] theorem State.sbRead_rsp (s : State) (b : BitVec 1) (i : BitVec 32) : (s.sbRead b i).rsp = s.rsp := rfl
@[simp] theorem State.sbRead_sbData (s : State) (b : BitVec 1) (i : BitVec 32) : (s.sbRead b i).sbData = some (s.debugSample b.toNat i.toNat) := rfl
@[simp] theorem State.sbRead_inbox (s : State) (b : BitVec 1) (i : BitVec 32) : (s.sbRead b i).inbox = s.inbox := rfl
@[simp] theorem State.sbRead_moves (s : State) (b : BitVec 1) (i : BitVec 32) : (s.sbRead b i).moves = s.moves := rfl

/-! ### State.takeMove -/

@[simp] theorem State.takeMove_cfg (s : State) : (s.takeMove).cfg = s.cfg := rfl
@[simp] theorem State.takeMove_txState (s : State) : (s.takeMove).txState = s.txState := rfl
@[simp] theorem State.takeMove_inflightValid (s : State) : (s.takeMove).inflightValid = s.inflightValid := rfl
@[simp] theorem State.takeMove_inflightH (s : State) : (s.takeMove).inflightH = s.inflightH := rfl
@[simp] theorem State.takeMove_latchCnt (s : State) : (s.takeMove).latchCnt = s.latchCnt := rfl
@[simp] theorem State.takeMove_done (s : State) : (s.takeMove).done = s.done := rfl
@[simp] theorem State.takeMove_sb0 (s : State) : (s.takeMove).sb0 = s.sb0 := rfl
@[simp] theorem State.takeMove_sb1 (s : State) : (s.takeMove).sb1 = s.sb1 := rfl
@[simp] theorem State.takeMove_dmaSrc (s : State) : (s.takeMove).dmaSrc = s.dmaSrc := rfl
@[simp] theorem State.takeMove_dmaLen (s : State) : (s.takeMove).dmaLen = s.dmaLen := rfl
@[simp] theorem State.takeMove_dmaIdx (s : State) : (s.takeMove).dmaIdx = s.dmaIdx := rfl
@[simp] theorem State.takeMove_dmaEn (s : State) : (s.takeMove).dmaEn = s.dmaEn := rfl
@[simp] theorem State.takeMove_pwmPeriod (s : State) : (s.takeMove).pwmPeriod = s.pwmPeriod := rfl
@[simp] theorem State.takeMove_pwmDuty (s : State) : (s.takeMove).pwmDuty = s.pwmDuty := rfl
@[simp] theorem State.takeMove_pwmRun (s : State) : (s.takeMove).pwmRun = s.pwmRun := rfl
@[simp] theorem State.takeMove_tcPend (s : State) : (s.takeMove).tcPend = s.tcPend := rfl
@[simp] theorem State.takeMove_errPend (s : State) : (s.takeMove).errPend = s.errPend := rfl
@[simp] theorem State.takeMove_pix (s : State) : (s.takeMove).pix = s.pix := rfl
@[simp] theorem State.takeMove_wave (s : State) : (s.takeMove).wave = s.wave := rfl
@[simp] theorem State.takeMove_ports (s : State) : (s.takeMove).ports = s.ports := rfl
@[simp] theorem State.takeMove_rsp (s : State) : (s.takeMove).rsp = none := rfl
@[simp] theorem State.takeMove_sbData (s : State) : (s.takeMove).sbData = none := rfl
@[simp] theorem State.takeMove_inbox (s : State) : (s.takeMove).inbox = s.inbox.tail := rfl
@[simp] theorem State.takeMove_moves (s : State) : (s.takeMove).moves = s.moves + 1 := rfl

/-! ### State.offer -/

@[simp] theorem State.offer_cfg (s : State) (m : Move) : (s.offer m).cfg = s.cfg := rfl
@[simp] theorem State.offer_txState (s : State) (m : Move) : (s.offer m).txState = s.txState := rfl
@[simp] theorem State.offer_inflightValid (s : State) (m : Move) : (s.offer m).inflightValid = s.inflightValid := rfl
@[simp] theorem State.offer_inflightH (s : State) (m : Move) : (s.offer m).inflightH = s.inflightH := rfl
@[simp] theorem State.offer_latchCnt (s : State) (m : Move) : (s.offer m).latchCnt = s.latchCnt := rfl
@[simp] theorem State.offer_done (s : State) (m : Move) : (s.offer m).done = s.done := rfl
@[simp] theorem State.offer_sb0 (s : State) (m : Move) : (s.offer m).sb0 = s.sb0 := rfl
@[simp] theorem State.offer_sb1 (s : State) (m : Move) : (s.offer m).sb1 = s.sb1 := rfl
@[simp] theorem State.offer_dmaSrc (s : State) (m : Move) : (s.offer m).dmaSrc = s.dmaSrc := rfl
@[simp] theorem State.offer_dmaLen (s : State) (m : Move) : (s.offer m).dmaLen = s.dmaLen := rfl
@[simp] theorem State.offer_dmaIdx (s : State) (m : Move) : (s.offer m).dmaIdx = s.dmaIdx := rfl
@[simp] theorem State.offer_dmaEn (s : State) (m : Move) : (s.offer m).dmaEn = s.dmaEn := rfl
@[simp] theorem State.offer_pwmPeriod (s : State) (m : Move) : (s.offer m).pwmPeriod = s.pwmPeriod := rfl
@[simp] theorem State.offer_pwmDuty (s : State) (m : Move) : (s.offer m).pwmDuty = s.pwmDuty := rfl
@[simp] theorem State.offer_pwmRun (s : State) (m : Move) : (s.offer m).pwmRun = s.pwmRun := rfl
@[simp] theorem State.offer_tcPend (s : State) (m : Move) : (s.offer m).tcPend = s.tcPend := rfl
@[simp] theorem State.offer_errPend (s : State) (m : Move) : (s.offer m).errPend = s.errPend := rfl
@[simp] theorem State.offer_pix (s : State) (m : Move) : (s.offer m).pix = s.pix := rfl
@[simp] theorem State.offer_wave (s : State) (m : Move) : (s.offer m).wave = s.wave := rfl
@[simp] theorem State.offer_ports (s : State) (m : Move) : (s.offer m).ports = s.ports := rfl
@[simp] theorem State.offer_rsp (s : State) (m : Move) : (s.offer m).rsp = s.rsp := rfl
@[simp] theorem State.offer_sbData (s : State) (m : Move) : (s.offer m).sbData = s.sbData := rfl
@[simp] theorem State.offer_inbox (s : State) (m : Move) : (s.offer m).inbox = [m] := rfl
@[simp] theorem State.offer_moves (s : State) (m : Move) : (s.offer m).moves = s.moves := rfl

/-! ### State.hardReset -/

@[simp] theorem State.hardReset_cfg (s : State) : (s.hardReset).cfg = CfgRegs.reset := rfl
@[simp] theorem State.hardReset_txState (s : State) : (s.hardReset).txState = .idle := rfl
@[simp] theorem State.hardReset_inflightValid (s : State) : (s.hardReset).inflightValid = false := rfl
@[simp] theorem State.hardReset_inflightH (s : State) : (s.hardReset).inflightH = 0#1 := rfl
@[simp] theorem State.hardReset_latchCnt (s : State) : (s.hardReset).latchCnt = 0#32 := rfl
@[simp] theorem State.hardReset_done (s : State) : (s.hardReset).done = false := rfl
@[simp] theorem State.hardReset_sb0 (s : State) : (s.hardReset).sb0 = SampleBuffer.reset := rfl
@[simp] theorem State.hardReset_sb1 (s : State) : (s.hardReset).sb1 = SampleBuffer.reset := rfl
@[simp] theorem State.hardReset_dmaSrc (s : State) : (s.hardReset).dmaSrc = 0#1 := rfl
@[simp] theorem State.hardReset_dmaLen (s : State) : (s.hardReset).dmaLen = 0#32 := rfl
@[simp] theorem State.hardReset_dmaIdx (s : State) : (s.hardReset).dmaIdx = 0#32 := rfl
@[simp] theorem State.hardReset_dmaEn (s : State) : (s.hardReset).dmaEn = false := rfl
@[simp] theorem State.hardReset_pwmPeriod (s : State) : (s.hardReset).pwmPeriod = 0#16 := rfl
@[simp] theorem State.hardReset_pwmDuty (s : State) : (s.hardReset).pwmDuty = 0#16 := rfl
@[simp] theorem State.hardReset_pwmRun (s : State) : (s.hardReset).pwmRun = false := rfl
@[simp] theorem State.hardReset_tcPend (s : State) : (s.hardReset).tcPend = false := rfl
@[simp] theorem State.hardReset_errPend (s : State) : (s.hardReset).errPend = false := rfl
@[simp] theorem State.hardReset_pix (s : State) : (s.hardReset).pix = [] := rfl
@[simp] theorem State.hardReset_wave (s : State) : (s.hardReset).wave = [] := rfl
@[simp] theorem State.hardReset_ports (s : State) : (s.hardReset).ports = s.ports := rfl
@[simp] theorem State.hardReset_rsp (s : State) : (s.hardReset).rsp = none := rfl
@[simp] theorem State.hardReset_sbData (s : State) : (s.hardReset).sbData = none := rfl
@[simp] theorem State.hardReset_inbox (s : State) : (s.hardReset).inbox = s.inbox := rfl
@[simp] theorem State.hardReset_moves (s : State) : (s.hardReset).moves = s.moves := rfl

/-! ### State.drivePorts -/

@[simp] theorem State.drivePorts_cfg (s : State) (p : CfgPorts) : (s.drivePorts p).cfg = s.cfg := rfl
@[simp] theorem State.drivePorts_txState (s : State) (p : CfgPorts) : (s.drivePorts p).txState = s.txState := rfl
@[simp] theorem State.drivePorts_inflightValid (s : State) (p : CfgPorts) : (s.drivePorts p).inflightValid = s.inflightValid := rfl
@[simp] theorem State.drivePorts_inflightH (s : State) (p : CfgPorts) : (s.drivePorts p).inflightH = s.inflightH := rfl
@[simp] theorem State.drivePorts_latchCnt (s : State) (p : CfgPorts) : (s.drivePorts p).latchCnt = s.latchCnt := rfl
@[simp] theorem State.drivePorts_done (s : State) (p : CfgPorts) : (s.drivePorts p).done = s.done := rfl
@[simp] theorem State.drivePorts_sb0 (s : State) (p : CfgPorts) : (s.drivePorts p).sb0 = s.sb0 := rfl
@[simp] theorem State.drivePorts_sb1 (s : State) (p : CfgPorts) : (s.drivePorts p).sb1 = s.sb1 := rfl
@[simp] theorem State.drivePorts_dmaSrc (s : State) (p : CfgPorts) : (s.drivePorts p).dmaSrc = s.dmaSrc := rfl
@[simp] theorem State.drivePorts_dmaLen (s : State) (p : CfgPorts) : (s.drivePorts p).dmaLen = s.dmaLen := rfl
@[simp] theorem State.drivePorts_dmaIdx (s : State) (p : CfgPorts) : (s.drivePorts p).dmaIdx = s.dmaIdx := rfl
@[simp] theorem State.drivePorts_dmaEn (s : State) (p : CfgPorts) : (s.drivePorts p).dmaEn = s.dmaEn := rfl
@[simp] theorem State.drivePorts_pwmPeriod (s : State) (p : CfgPorts) : (s.drivePorts p).pwmPeriod = s.pwmPeriod := rfl
@[simp] theorem State.drivePorts_pwmDuty (s : State) (p : CfgPorts) : (s.drivePorts p).pwmDuty = s.pwmDuty := rfl
@[simp] theorem State.drivePorts_pwmRun (s : State) (p : CfgPorts) : (s.drivePorts p).pwmRun = s.pwmRun := rfl
@[simp] theorem State.drivePorts_tcPend (s : State) (p : CfgPorts) : (s.drivePorts p).tcPend = s.tcPend := rfl
@[simp] theorem State.drivePorts_errPend (s : State) (p : CfgPorts) : (s.drivePorts p).errPend = s.errPend := rfl
@[simp] theorem State.drivePorts_pix (s : State) (p : CfgPorts) : (s.drivePorts p).pix = s.pix := rfl
@[simp] theorem State.drivePorts_wave (s : State) (p : CfgPorts) : (s.drivePorts p).wave = s.wave := rfl
@[simp] theorem State.drivePorts_ports (s : State) (p : CfgPorts) : (s.drivePorts p).ports = p := rfl
@[simp] theorem State.drivePorts_rsp (s : State) (p : CfgPorts) : (s.drivePorts p).rsp = s.rsp := rfl
@[simp] theorem State.drivePorts_sbData (s : State) (p : CfgPorts) : (s.drivePorts p).sbData = s.sbData := rfl
@[simp] theorem State.drivePorts_inbox (s : State) (p : CfgPorts) : (s.drivePorts p).inbox = s.inbox := rfl
@[simp] theorem State.drivePorts_moves (s : State) (p : CfgPorts) : (s.drivePorts p).moves = s.moves := rfl

/-! ### State.lookupTiming -/

@[simp] theorem State.lookupTiming_cfg (s : State) (variant : Nat) : (s.lookupTiming variant).cfg = s.cfg := rfl
@[simp] theorem State.lookupTiming_txState (s : State) (variant : Nat) : (s.lookupTiming variant).txState = s.txState := rfl
@[simp] theorem State.lookupTiming_inflightValid (s : State) (variant : Nat) : (s.lookupTiming variant).inflightValid = s.inflightValid := rfl
@[simp] theorem State.lookupTiming_inflightH (s : State) (variant : Nat) : (s.lookupTiming variant).inflightH = s.inflightH := rfl
@[simp] theorem State.lookupTiming_latchCnt (s : State) (variant : Nat) : (s.lookupTiming variant).latchCnt = s.latchCnt := rfl
@[simp] theorem State.lookupTiming_done (s : State) (variant : Nat) : (s.lookupTiming variant).done = s.done := rfl
@[simp] theorem State.lookupTiming_sb0 (s : State) (variant : Nat) : (s.lookupTiming variant).sb0 = s.sb0 := rfl
@[simp] theorem State.lookupTiming_sb1 (s : State) (variant : Nat) : (s.lookupTiming variant).sb1 = s.sb1 := rfl
@[simp] theorem State.lookupTiming_dmaSrc (s : State) (variant : Nat) : (s.lookupTiming variant).dmaSrc = s.dmaSrc := rfl
@[simp] theorem State.lookupTiming_dmaLen (s : State) (variant : Nat) : (s.lookupTiming variant).dmaLen = s.dmaLen := rfl
@[simp] theorem State.lookupTiming_dmaIdx (s : State) (variant : Nat) : (s.lookupTiming variant).dmaIdx = s.dmaIdx := rfl
@[simp] theorem State.lookupTiming_dmaEn (s : State) (variant : Nat) : (s.lookupTiming variant).dmaEn = s.dmaEn := rfl
@[simp] theorem State.lookupTiming_pwmPeriod (s : State) (variant : Nat) : (s.lookupTiming variant).pwmPeriod = s.pwmPeriod := rfl
@[simp] theorem State.lookupTiming_pwmDuty (s : State) (variant : Nat) : (s.lookupTiming variant).pwmDuty = s.pwmDuty := rfl
@[simp] theorem State.lookupTiming_pwmRun (s : State) (variant : Nat) : (s.lookupTiming variant).pwmRun = s.pwmRun := rfl
@[simp] theorem State.lookupTiming_tcPend (s : State) (variant : Nat) : (s.lookupTiming variant).tcPend = s.tcPend := rfl
@[simp] theorem State.lookupTiming_errPend (s : State) (variant : Nat) : (s.lookupTiming variant).errPend = s.errPend := rfl
@[simp] theorem State.lookupTiming_pix (s : State) (variant : Nat) : (s.lookupTiming variant).pix = s.pix := rfl
@[simp] theorem State.lookupTiming_wave (s : State) (variant : Nat) : (s.lookupTiming variant).wave = s.wave := rfl
@[simp] theorem State.lookupTiming_ports (s : State) (variant : Nat) : (s.lookupTiming variant).ports = { s.ports with spec := Config.timingTable variant } := rfl
@[simp] theorem State.lookupTiming_rsp (s : State) (variant : Nat) : (s.lookupTiming variant).rsp = s.rsp := rfl
@[simp] theorem State.lookupTiming_sbData (s : State) (variant : Nat) : (s.lookupTiming variant).sbData = s.sbData := rfl
@[simp] theorem State.lookupTiming_inbox (s : State) (variant : Nat) : (s.lookupTiming variant).inbox = s.inbox := rfl
@[simp] theorem State.lookupTiming_moves (s : State) (variant : Nat) : (s.lookupTiming variant).moves = s.moves := rfl

/-! ### State.queueCommand -/

@[simp] theorem State.queueCommand_cfg (s : State) (w : Word) : (s.queueCommand w).cfg = s.cfg := rfl
@[simp] theorem State.queueCommand_txState (s : State) (w : Word) : (s.queueCommand w).txState = s.txState := rfl
@[simp] theorem State.queueCommand_inflightValid (s : State) (w : Word) : (s.queueCommand w).inflightValid = s.inflightValid := rfl
@[simp] theorem State.queueCommand_inflightH (s : State) (w : Word) : (s.queueCommand w).inflightH = s.inflightH := rfl
@[simp] theorem State.queueCommand_latchCnt (s : State) (w : Word) : (s.queueCommand w).latchCnt = s.latchCnt := rfl
@[simp] theorem State.queueCommand_done (s : State) (w : Word) : (s.queueCommand w).done = s.done := rfl
@[simp] theorem State.queueCommand_sb0 (s : State) (w : Word) : (s.queueCommand w).sb0 = s.sb0 := rfl
@[simp] theorem State.queueCommand_sb1 (s : State) (w : Word) : (s.queueCommand w).sb1 = s.sb1 := rfl
@[simp] theorem State.queueCommand_dmaSrc (s : State) (w : Word) : (s.queueCommand w).dmaSrc = s.dmaSrc := rfl
@[simp] theorem State.queueCommand_dmaLen (s : State) (w : Word) : (s.queueCommand w).dmaLen = s.dmaLen := rfl
@[simp] theorem State.queueCommand_dmaIdx (s : State) (w : Word) : (s.queueCommand w).dmaIdx = s.dmaIdx := rfl
@[simp] theorem State.queueCommand_dmaEn (s : State) (w : Word) : (s.queueCommand w).dmaEn = s.dmaEn := rfl
@[simp] theorem State.queueCommand_pwmPeriod (s : State) (w : Word) : (s.queueCommand w).pwmPeriod = s.pwmPeriod := rfl
@[simp] theorem State.queueCommand_pwmDuty (s : State) (w : Word) : (s.queueCommand w).pwmDuty = s.pwmDuty := rfl
@[simp] theorem State.queueCommand_pwmRun (s : State) (w : Word) : (s.queueCommand w).pwmRun = s.pwmRun := rfl
@[simp] theorem State.queueCommand_tcPend (s : State) (w : Word) : (s.queueCommand w).tcPend = s.tcPend := rfl
@[simp] theorem State.queueCommand_errPend (s : State) (w : Word) : (s.queueCommand w).errPend = s.errPend := rfl
@[simp] theorem State.queueCommand_pix (s : State) (w : Word) : (s.queueCommand w).pix = s.pix := rfl
@[simp] theorem State.queueCommand_wave (s : State) (w : Word) : (s.queueCommand w).wave = s.wave := rfl
@[simp] theorem State.queueCommand_ports (s : State) (w : Word) : (s.queueCommand w).ports = s.ports := rfl
@[simp] theorem State.queueCommand_rsp (s : State) (w : Word) : (s.queueCommand w).rsp = s.rsp := rfl
@[simp] theorem State.queueCommand_sbData (s : State) (w : Word) : (s.queueCommand w).sbData = s.sbData := rfl
@[simp] theorem State.queueCommand_inbox (s : State) (w : Word) : (s.queueCommand w).inbox = .command w :: s.inbox := rfl
@[simp] theorem State.queueCommand_moves (s : State) (w : Word) : (s.queueCommand w).moves = s.moves := rfl

end Sys2Proof.Machine
end

