-- ==== Sys2Proof/Laws/Buffers.lean ====
section
/-! SUPPORT. What each update does to the sample buffers: the buffer it names, and no other. -/

namespace Sys2Proof.Machine

@[simp] theorem State.buffer_zero (s : State) : s.buffer 0 = s.sb0 := rfl
@[simp] theorem State.buffer_one (s : State) : s.buffer 1 = s.sb1 := rfl

theorem State.buffer_of_pos (s : State) {b : Nat} (h : b ≠ 0) : s.buffer b = s.sb1 := by
  simp [State.buffer, h]

/-- Buffers are equal field by field. -/
theorem State.buffer_congr {s t : State} (h0 : t.sb0 = s.sb0) (h1 : t.sb1 = s.sb1) (b : Nat) :
    t.buffer b = s.buffer b := by simp [State.buffer, h0, h1]

@[simp] theorem State.buffer_setBuffer_same (s : State) (b : Nat) (x : SampleBuffer) :
    (s.setBuffer b x).buffer b = x := by
  unfold State.setBuffer State.buffer; split <;> rfl

theorem State.buffer_setBuffer_other (s : State) {b c : Nat} (x : SampleBuffer) (hb : b < 2) (hc : c < 2)
    (h : c ≠ b) : (s.setBuffer b x).buffer c = s.buffer c := by
  unfold State.setBuffer State.buffer
  split <;> split <;> first | rfl | omega

theorem State.buffer_setBuffer (s : State) {b c : Nat} (x : SampleBuffer) (hb : b < 2) (hc : c < 2) :
    (s.setBuffer b x).buffer c = if c = b then x else s.buffer c := by
  split
  · subst_vars; simp
  · exact State.buffer_setBuffer_other s x hb hc ‹_›

@[simp] theorem State.setBuffer_setBuffer (s : State) (b : Nat) (x y : SampleBuffer) :
    (s.setBuffer b x).setBuffer b y = s.setBuffer b y := by
  unfold State.setBuffer; split <;> rfl

theorem State.buffer_setOwner (s : State) {b c : Nat} (o : Owner) (hb : b < 2) (hc : c < 2) :
    (s.setOwner b o).buffer c = if c = b then { s.buffer b with owner := o } else s.buffer c :=
  State.buffer_setBuffer s _ hb hc

@[simp] theorem State.buffer_setOwner_same (s : State) (b : Nat) (o : Owner) :
    (s.setOwner b o).buffer b = { s.buffer b with owner := o } := State.buffer_setBuffer_same s b _

@[simp] theorem State.buffer_respond (s : State) (st : Status) (v : BitVec 3) (b : Nat) :
    (s.respond st v).buffer b = s.buffer b := rfl

@[simp] theorem State.owner_respond (s : State) (st : Status) (v : BitVec 3) (b : Nat) :
    (s.respond st v).owner b = s.owner b := rfl

@[simp] theorem State.buffer_takeMove (s : State) (b : Nat) : s.takeMove.buffer b = s.buffer b := rfl

@[simp] theorem State.owner_takeMove (s : State) (b : Nat) : s.takeMove.owner b = s.owner b := rfl

@[simp] theorem State.buffer_offer (s : State) (m : Move) (b : Nat) : (s.offer m).buffer b = s.buffer b := rfl

@[simp] theorem State.owner_offer (s : State) (m : Move) (b : Nat) : (s.offer m).owner b = s.owner b := rfl

@[simp] theorem State.buffer_pixWrite (s : State) (i : BitVec 16) (w : Pixel) (b : Nat) :
    (s.pixWrite i w).buffer b = s.buffer b := rfl

/-- PREPARE's writes as one write of the buffer. -/
theorem State.prepareFrame_eq (s : State) (n w : Nat) :
    s.prepareFrame n w = s.setBuffer w
      { owner := .prepared
        len := BitVec.ofNat 32 (s.cfg.frameLen n)
        data := Mem.overlay (s.cfg.frame (s.pixelBuffer n)) (s.buffer w).data } := by
  simp [State.prepareFrame, State.encodeInto, State.setLen, State.setOwner]

@[simp] theorem State.buffer_prepareFrame_same (s : State) (n w : Nat) :
    (s.prepareFrame n w).buffer w =
      { owner := .prepared
        len := BitVec.ofNat 32 (s.cfg.frameLen n)
        data := Mem.overlay (s.cfg.frame (s.pixelBuffer n)) (s.buffer w).data } := by
  simp [State.prepareFrame_eq]

theorem State.buffer_prepareFrame_other (s : State) (n : Nat) {w b : Nat} (hw : w < 2) (hb : b < 2) (h : b ≠ w) :
    (s.prepareFrame n w).buffer b = s.buffer b := by
  rw [State.prepareFrame_eq, State.buffer_setBuffer_other s _ hw hb h]

@[simp] theorem State.buffer_armBuffer_same (s : State) (h : Nat) :
    (s.armBuffer h).buffer h = { s.buffer h with owner := .inflight } :=
  State.buffer_setOwner_same s h _

theorem State.buffer_armBuffer_other (s : State) {h b : Nat} (hh : h < 2) (hb : b < 2) (hne : b ≠ h) :
    (s.armBuffer h).buffer b = s.buffer b := State.buffer_setBuffer_other s _ hh hb hne

@[simp] theorem State.buffer_cancelLatch_same (s : State) :
    s.cancelLatch.buffer s.inflightH.toNat = { s.buffer s.inflightH.toNat with owner := .writable } :=
  State.buffer_setOwner_same s _ _

theorem State.buffer_cancelLatch_other (s : State) {b : Nat} (hb : b < 2) (h : b ≠ s.inflightH.toNat) :
    s.cancelLatch.buffer b = s.buffer b := State.buffer_setBuffer_other s _ s.inflightH.isLt hb h

theorem State.buffer_enterFaulted (s : State) (b : Nat) :
    s.enterFaulted.buffer b =
      (if s.inflightValid then s.setOwner s.inflightH.toNat .unusable else s).buffer b := rfl

theorem State.buffer_forceIdle (s : State) {b : Nat} (h : b < s.cfg.nbuf) :
    s.forceIdle.buffer b = { s.buffer b with owner := .writable } := by
  unfold State.buffer CfgRegs.nbuf at *
  split
  · simp
  · have : s.cfg.double = true := by
      revert h; cases s.cfg.double <;> simp; omega
    simp [this]

theorem State.buffer_configure (s : State) {b : Nat} (h : b < s.configure.cfg.nbuf) :
    s.configure.buffer b = { s.buffer b with owner := .writable, len := 0#32 } := by
  unfold State.buffer CfgRegs.nbuf at *
  split
  · simp
  · have : s.ports.double = true := by
      by_contra hd
      simp only [State.configure_cfg, CfgPorts.toRegs, hd] at h
      simp at h; omega
    simp [this]

/-- There are one or two buffers (10_state.md R21). -/
theorem CfgRegs.nbuf_le (c : CfgRegs) : c.nbuf ≤ 2 := by unfold CfgRegs.nbuf; split <;> omega

theorem CfgRegs.nbuf_pos (c : CfgRegs) : 0 < c.nbuf := by unfold CfgRegs.nbuf; split <;> omega

/-- `Writable()` answers the least writable buffer (42_buffer_manager.md R161). -/
theorem State.firstWritable_eq_some {s : State} {w : Nat} :
    s.firstWritable = some w ↔ w < s.cfg.nbuf ∧ s.owner w = .writable ∧ ∀ b, b < w → s.owner b ≠ .writable := by
  unfold State.firstWritable
  rw [List.find?_range_eq_some]
  simp only [beq_iff_eq, List.mem_range, Bool.not_eq_true', beq_eq_false_iff_ne]
  tauto

theorem State.firstWritable_eq_none {s : State} :
    s.firstWritable = none ↔ ∀ b, b < s.cfg.nbuf → s.owner b ≠ .writable := by
  unfold State.firstWritable
  simp

theorem State.firstWritable_lt_two {s : State} {w : Nat} (h : s.firstWritable = some w) : w < 2 :=
  Nat.lt_of_lt_of_le (State.firstWritable_eq_some.1 h).1 s.cfg.nbuf_le

end Sys2Proof.Machine
end

