-- ==== Sys2Proof/Laws/Memory.lean ====
section
/-! SUPPORT. The laws of the memory operations: a read after a write, and the canonical form every write keeps. -/

namespace Sys2Proof.Machine

variable {w : Nat}

@[simp] theorem Mem.read_nil (i : Nat) : Mem.read ([] : Mem w) i = none := rfl

theorem Mem.read_cons (a : Nat) (v : BitVec w) (m : Mem w) (i : Nat) :
    Mem.read ((a, v) :: m) i = if a = i then some v else Mem.read m i := rfl

theorem Mem.read_write (m : Mem w) (i j : Nat) (v : BitVec w) :
    Mem.read (Mem.write m i v) j = if i = j then some v else Mem.read m j := by
  induction m with
  | nil => rfl
  | cons c m ih =>
    obtain ⟨a, u⟩ := c
    simp only [Mem.write]
    split
    · simp [Mem.read_cons]
    · split
      · subst_vars; simp only [Mem.read_cons]; split <;> simp_all
      · simp only [Mem.read_cons, ih]; split <;> split <;> simp_all

@[simp] theorem Mem.read_write_same (m : Mem w) (i : Nat) (v : BitVec w) :
    Mem.read (Mem.write m i v) i = some v := by simp [Mem.read_write]

theorem Mem.read_write_other (m : Mem w) {i j : Nat} (v : BitVec w) (h : i ≠ j) :
    Mem.read (Mem.write m i v) j = Mem.read m j := by simp [Mem.read_write, h]

theorem Mem.mem_write {m : Mem w} {i : Nat} {v : BitVec w} {c : Nat × BitVec w}
    (h : c ∈ Mem.write m i v) : c = (i, v) ∨ c ∈ m := by
  induction m with
  | nil => simpa [Mem.write] using h
  | cons d m ih =>
    obtain ⟨a, u⟩ := d
    simp only [Mem.write] at h
    split at h
    · simpa using h
    · split at h
      · rcases List.mem_cons.1 h with h | h <;> simp_all
      · rcases List.mem_cons.1 h with h | h
        · simp_all
        · rcases ih h with h | h <;> simp_all

theorem Mem.wf_cons {c : Nat × BitVec w} {m : Mem w} :
    Mem.Wf (c :: m) ↔ (∀ d ∈ m, c.1 < d.1) ∧ Mem.Wf m := by
  simp [Mem.Wf, List.pairwise_cons]

theorem Mem.wf_write {m : Mem w} (h : Mem.Wf m) (i : Nat) (v : BitVec w) : Mem.Wf (Mem.write m i v) := by
  induction m with
  | nil => simp [Mem.write, Mem.Wf]
  | cons c m ih =>
    obtain ⟨a, u⟩ := c
    have hm := Mem.wf_cons.1 h
    simp only [Mem.write]
    split
    · rename_i hia
      refine Mem.wf_cons.2 ⟨fun d hd => ?_, h⟩
      rcases List.mem_cons.1 hd with rfl | hd
      · exact hia
      · exact Nat.lt_trans hia (hm.1 d hd)
    · split
      · rename_i _ hia
        exact Mem.wf_cons.2 ⟨fun d hd => hia ▸ hm.1 d hd, hm.2⟩
      · refine Mem.wf_cons.2 ⟨fun d hd => ?_, ih hm.2⟩
        rcases Mem.mem_write hd with rfl | hd
        · simp only; omega
        · exact hm.1 d hd

theorem Mem.mem_fromList {base : Nat} {xs : List (BitVec w)} {c : Nat × BitVec w}
    (h : c ∈ Mem.fromList base xs) : base ≤ c.1 ∧ c.1 < base + xs.length := by
  induction xs generalizing base with
  | nil => simp [Mem.fromList] at h
  | cons x xs ih =>
    rcases List.mem_cons.1 h with rfl | h
    · simp
    · have := ih h; simp only [List.length_cons]; omega

theorem Mem.wf_fromList (base : Nat) (xs : List (BitVec w)) : Mem.Wf (Mem.fromList base xs) := by
  induction xs generalizing base with
  | nil => simp [Mem.fromList, Mem.Wf]
  | cons x xs ih =>
    exact Mem.wf_cons.2 ⟨fun d hd => (Mem.mem_fromList hd).1, ih _⟩

theorem Mem.read_fromList (base : Nat) (xs : List (BitVec w)) (i : Nat) :
    Mem.read (Mem.fromList base xs) i = if base ≤ i then xs[i - base]? else none := by
  induction xs generalizing base with
  | nil => simp [Mem.fromList]
  | cons x xs ih =>
    simp only [Mem.fromList, Mem.read_cons, ih]
    rcases Nat.lt_trichotomy base i with h | h | h
    · obtain ⟨k, rfl⟩ : ∃ k, i = base + 1 + k := ⟨i - base - 1, by omega⟩
      rw [if_neg (by omega), if_pos (by omega), if_pos (by omega),
        show base + 1 + k - (base + 1) = k by omega, show base + 1 + k - base = k + 1 by omega]
      rfl
    · subst h; simp
    · rw [if_neg (by omega), if_neg (by omega), if_neg (by omega)]

theorem Mem.read_append (a b : Mem w) (i : Nat) :
    Mem.read (a ++ b) i = (Mem.read a i).or (Mem.read b i) := by
  induction a with
  | nil => simp
  | cons c a ih =>
    obtain ⟨k, v⟩ := c
    simp only [List.cons_append, Mem.read_cons, ih]
    split <;> simp

theorem Mem.read_filter_ge (m : Mem w) (n i : Nat) :
    Mem.read (m.filter fun c => decide (n ≤ c.1)) i = if n ≤ i then Mem.read m i else none := by
  induction m with
  | nil => simp
  | cons c m ih =>
    obtain ⟨a, v⟩ := c
    simp only [List.filter_cons]
    split
    · simp only [Mem.read_cons, ih]
      split <;> simp_all
    · simp only [Mem.read_cons, ih]
      by_cases hn : n ≤ i
      · have hne : a ≠ i := by rintro rfl; simp_all
        simp [hn, hne]
      · simp [hn]

/-- Encode's write: the first `xs.length` elements are `xs`, the others keep their contents. -/
theorem Mem.read_overlay (xs : List (BitVec w)) (m : Mem w) (i : Nat) :
    Mem.read (Mem.overlay xs m) i = if i < xs.length then xs[i]? else Mem.read m i := by
  simp only [Mem.overlay, Mem.read_append, Mem.read_fromList, Mem.read_filter_ge]
  by_cases h : i < xs.length
  · simp [h]
  · have h' := Nat.le_of_not_lt h
    simp [h, h']

theorem Mem.mem_overlay {xs : List (BitVec w)} {m : Mem w} {c : Nat × BitVec w}
    (h : c ∈ Mem.overlay xs m) : c.1 < xs.length ∨ c ∈ m := by
  rcases List.mem_append.1 h with h | h
  · have := Mem.mem_fromList h; left; omega
  · right; exact (List.mem_filter.1 h).1

theorem Mem.wf_overlay (xs : List (BitVec w)) {m : Mem w} (h : Mem.Wf m) : Mem.Wf (Mem.overlay xs m) := by
  simp only [Mem.Wf, Mem.overlay, List.map_append, List.pairwise_append]
  refine ⟨Mem.wf_fromList 0 xs, h.sublist (List.filter_sublist.map _), ?_⟩
  intro a ha b hb
  obtain ⟨c, hc, rfl⟩ := List.mem_map.1 ha
  obtain ⟨d, hd, rfl⟩ := List.mem_map.1 hb
  have h1 := Mem.mem_fromList hc
  have h2 : xs.length ≤ d.1 := by simpa using (List.mem_filter.1 hd).2
  omega

/-- Two memories in canonical form that read alike are equal. -/
theorem Mem.eq_of_read_eq {m n : Mem w} (hm : Mem.Wf m) (hn : Mem.Wf n)
    (h : ∀ i, Mem.read m i = Mem.read n i) : m = n := by
  have none_of_lt : ∀ {k : Mem w} {i : Nat}, (∀ d ∈ k, i < d.1) → Mem.read k i = none := by
    intro k i
    induction k with
    | nil => simp
    | cons c k ih =>
      obtain ⟨a, v⟩ := c
      intro hk
      have ha := hk (a, v) (by simp)
      simp only [Mem.read_cons]
      rw [if_neg (by simp only at ha; omega)]
      exact ih fun d hd => hk d (by simp [hd])
  induction m generalizing n with
  | nil =>
    cases n with
    | nil => rfl
    | cons c n => obtain ⟨a, v⟩ := c; simpa [Mem.read_cons] using h a
  | cons c m ih =>
    obtain ⟨a, v⟩ := c
    cases n with
    | nil => simpa [Mem.read_cons] using h a
    | cons d n =>
      obtain ⟨b, u⟩ := d
      have hm' := Mem.wf_cons.1 hm
      have hn' := Mem.wf_cons.1 hn
      have hab : a = b := by
        rcases Nat.lt_trichotomy a b with hlt | heq | hgt
        · have := h a
          rw [Mem.read_cons, if_pos rfl, Mem.read_cons, if_neg (by omega),
            none_of_lt fun d hd => Nat.lt_trans hlt (hn'.1 d hd)] at this
          simp at this
        · exact heq
        · have := h b
          rw [Mem.read_cons, if_neg (by omega), Mem.read_cons, if_pos rfl,
            none_of_lt fun d hd => Nat.lt_trans hgt (hm'.1 d hd)] at this
          simp at this
      subst hab
      have hv : v = u := by simpa [Mem.read_cons] using h a
      subst hv
      congr 1
      refine ih hm'.2 hn'.2 fun i => ?_
      by_cases hi : a = i
      · subst hi
        rw [none_of_lt hm'.1, none_of_lt hn'.1]
      · simpa [Mem.read_cons, hi] using h i

end Sys2Proof.Machine
end

