-- ==== Sys2Proof/Laws/Encoder.lean ====
section
/-! SUPPORT. The arithmetic of the derived constants and the shape of one pixel's samples (41_encoder.md). -/

namespace Sys2Proof.Machine

/-- `ceil(a / b)` is the least `q` with `q × b ≥ a` (00_scope.md R10). -/
theorem le_ceilDiv_mul (a : Nat) {b : Nat} (hb : 0 < b) : a ≤ ceilDiv a b * b := by
  unfold ceilDiv
  have h := Nat.div_add_mod (a + b - 1) b
  have h' := Nat.mod_lt (a + b - 1) hb
  rw [Nat.mul_comm] at h
  omega

theorem ceilDiv_le {a b q : Nat} (hb : 0 < b) (h : a ≤ q * b) : ceilDiv a b ≤ q := by
  unfold ceilDiv
  have : (a + b - 1) / b < q + 1 := by
    rw [Nat.div_lt_iff_lt_mul hb, Nat.add_mul]; omega
  omega

theorem ceilDiv_mul_lt (a : Nat) {b : Nat} (hb : 0 < b) : ceilDiv a b * b < a + b := by
  unfold ceilDiv
  have := Nat.div_mul_le_self (a + b - 1) b
  omega

/-- A frame of at most `CAP_PIX` pixels fits (41_encoder.md R141). -/
theorem CfgRegs.frameLen_le_sbCap (c : CfgRegs) {n : Nat} (hn : n ≤ c.capPix.toNat) : c.frameLen n ≤ c.sbCap :=
  Nat.add_le_add_right (Nat.mul_le_mul_right _ hn) _

namespace CfgRegs.Legal

variable {c : CfgRegs} (h : c.Legal)
include h

theorem period_pos : 0 < c.bitPeriod.toNat := by have := h.t0Positive; have := h.t0BelowT1; have := h.t1BelowPeriod; omega

theorem period_ge_three : 3 ≤ c.bitPeriod.toNat := by
  have := h.t0Positive; have := h.t0BelowT1; have := h.t1BelowPeriod; omega

/-- `BPP` is 24 or 32 (10_state.md R24). -/
theorem bpp_eq : c.bpp = c.chCount.toNat * 8 := by simp [CfgRegs.bpp, h.eightBits]

theorem chCount_toNat : c.chCount.toNat = 3 ∨ c.chCount.toNat = 4 := by
  rcases h.channels with h | h <;> simp [h]

theorem order_length : c.order.length = c.chCount.toNat := by
  rcases h.channels with h | h <;> simp [CfgRegs.order, h]

theorem resetSamples_le : c.resetSamples ≤ 1431655765 :=
  ceilDiv_le h.period_pos (by have := h.period_ge_three; have := c.resetTicks.isLt; omega)

theorem sbCap_le : c.sbCap ≤ 1433752885 := by
  have h1 := h.resetSamples_le
  have h2 : c.capPix.toNat * c.bpp ≤ 65535 * 32 := by
    refine Nat.mul_le_mul (by have := c.capPix.isLt; omega) ?_
    rw [h.bpp_eq]; rcases h.chCount_toNat with h | h <;> omega
  unfold CfgRegs.sbCap CfgRegs.frameLen
  omega

theorem frameLen_toNat {n : Nat} (hn : n ≤ c.capPix.toNat) : (BitVec.ofNat 32 (c.frameLen n)).toNat = c.frameLen n := by
  have h1 := c.frameLen_le_sbCap hn
  have h2 := h.sbCap_le
  simp only [BitVec.toNat_ofNat]
  omega

theorem frameLen_le_iff (n : Nat) : c.frameLen n ≤ c.sbCap ↔ n ≤ c.capPix.toNat := by
  refine ⟨fun hle => ?_, c.frameLen_le_sbCap⟩
  have hpos : 0 < c.bpp := by rw [h.bpp_eq]; rcases h.chCount_toNat with h | h <;> omega
  unfold CfgRegs.sbCap CfgRegs.frameLen at hle
  exact Nat.le_of_mul_le_mul_right (by omega) hpos

end CfgRegs.Legal

@[simp] theorem byteBits_length (x : BitVec 8) : (byteBits x).length = 8 := rfl

/-- Each pixel gives 8 samples a channel in use. -/
theorem CfgRegs.pixelSamples_length (c : CfgRegs) (px : Pixel) : (c.pixelSamples px).length = 8 * c.order.length := by
  unfold CfgRegs.pixelSamples
  induction c.order with
  | nil => rfl
  | cons id ids ih => simp [ih]; omega

theorem CfgRegs.Legal.pixelSamples_length {c : CfgRegs} (h : c.Legal) (px : Pixel) :
    (c.pixelSamples px).length = c.bpp := by
  rw [CfgRegs.pixelSamples_length, h.order_length, h.bpp_eq, Nat.mul_comm]

@[simp] theorem State.pixelBuffer_length (s : State) (n : Nat) : (s.pixelBuffer n).length = n := by
  simp [State.pixelBuffer]

theorem CfgRegs.Legal.bits_length {c : CfgRegs} (h : c.Legal) (pixels : List Pixel) :
    (pixels.flatMap c.pixelSamples).length = pixels.length * c.bpp := by
  induction pixels with
  | nil => simp
  | cons px pixels ih => simp [ih, h.pixelSamples_length, Nat.add_mul]; omega

/-- A sample of a pixel is `T0_HIGH` or `T1_HIGH`. -/
theorem CfgRegs.mem_pixelSamples {c : CfgRegs} {px : Pixel} {v : Sample} (h : v ∈ c.pixelSamples px) :
    v = c.t0High ∨ v = c.t1High := by
  simp only [CfgRegs.pixelSamples, List.mem_flatMap, List.mem_map] at h
  obtain ⟨_, _, b, _, rfl⟩ := h
  cases b <;> simp [CfgRegs.bitSample]

/-- The samples of wire position `k` of pixel `p`, before the trailer (41_encoder.md R144). -/
theorem CfgRegs.Legal.bits_getElem? {c : CfgRegs} (h : c.Legal) (pixels : List Pixel) (p k q : Nat) (px : Pixel)
    (id : ChannelId) (hp : pixels[p]? = some px) (hk : c.order[k]? = some id) (hq : q < 8) :
    (pixels.flatMap c.pixelSamples)[p * c.bpp + 8 * k + q]? = ((byteBits (channelByte px id))[q]?).map c.bitSample := by
  have hko : k < c.order.length := by
    by_contra hh; rw [List.getElem?_eq_none (by omega)] at hk; cases hk
  have hbpp : c.bpp = 8 * c.order.length := by rw [h.bpp_eq, h.order_length]; omega
  have inner : ∀ (o : List ChannelId) (k : Nat), o[k]? = some id →
      (o.flatMap fun id => (byteBits (channelByte px id)).map c.bitSample)[8 * k + q]? = ((byteBits (channelByte px id))[q]?).map c.bitSample := by
    intro o
    induction o with
    | nil => intro k hk; simp at hk
    | cons a o ih =>
      intro k hk
      simp only [List.flatMap_cons]
      cases k with
      | zero =>
        simp at hk; subst hk
        rw [List.getElem?_append_left (by simp; omega)]; simp
      | succ k =>
        rw [List.getElem?_append_right (by simp; omega)]
        have := ih k (by simpa using hk)
        rw [← this]; congr 1; simp; omega
  induction pixels generalizing p with
  | nil => simp at hp
  | cons a l ih =>
    simp only [List.flatMap_cons]
    cases p with
    | zero =>
      simp at hp; subst hp
      rw [List.getElem?_append_left (by rw [h.pixelSamples_length]; omega)]
      rw [Nat.zero_mul, Nat.zero_add]; exact inner _ _ hk
    | succ p =>
      rw [List.getElem?_append_right (by rw [h.pixelSamples_length, Nat.add_mul]; omega)]
      rw [← ih p (by simpa using hp)]; congr 1; rw [h.pixelSamples_length, Nat.add_mul]; omega

end Sys2Proof.Machine
end

