-- ==== Sys2Proof/Laws/Commands.lean ====
section
/-! SUPPORT. What each command can do, said once: it ends in an error that changes nothing but the response, or it has its
effect under the conditions of its rule (40_config.md R126, 42_buffer_manager.md R162, 43_tx_commands.md R182 to R200). -/

namespace Sys2Proof.Machine

/-- The command ended in an error: only the response is new (60_exceptions.md R250). -/
def Refused (s t : State) : Prop := ∃ st, st ≠ Status.ok ∧ t = s.respond st 0#3

theorem raise_cases {st : Status} {s t : State} (hst : st ≠ .ok) (h : raise st s = .next t) : Refused s t := by
  cases h; exact ⟨st, hst, rfl⟩

theorem encodeError_ne_ok {c : CfgRegs} {v : Variant} {n : Nat} {st : Status} (h : c.encodeError v n = some st) :
    st ≠ .ok := by
  unfold CfgRegs.encodeError at h
  split at h
  · cases h; decide
  · split at h
    · cases h; decide
    · cases h

theorem encodeError_eq_none {c : CfgRegs} {v : Variant} {n : Nat} :
    c.encodeError v n = none ↔ c.frameLen n ≤ c.sbCap ∧ (v = .rgbw ↔ c.chCount = 4#3) := by
  unfold CfgRegs.encodeError
  split
  · simp; omega
  · split
    · rename_i h1 h2
      simp only [bne_iff_ne, ne_eq, decide_eq_decide] at h2
      simp [h2]
    · rename_i h1 h2
      simp only [bne_iff_ne, ne_eq, decide_eq_decide, not_not] at h2
      simp [h2]; omega

/-- `TimingOK` and `ShapeOK` as propositions (40_config.md R122, R123). -/
theorem timingOk_iff (p : TimingSpec) :
    p.timingOk = true ↔ 0 < p.t0High.toNat ∧ p.t0High.toNat < p.t1High.toNat ∧ p.t1High.toNat < p.bitPeriod.toNat := by
  simp [TimingSpec.timingOk]

theorem shapeOk_iff (p : TimingSpec) :
    p.shapeOk = true ↔ p.bitsPerChannel = 8#4 ∧ (p.chCount = 3#3 ∨ p.chCount = 4#3) ∧
      ((List.range p.chCount.toNat).map p.channelAt).Nodup ∧
      (p.chCount = 3#3 → (3#2 : ChannelId) ∉ (List.range p.chCount.toNat).map p.channelAt) := by
  simp only [TimingSpec.shapeOk, TimingSpec.orderOk, Config.bpc, Bool.and_eq_true, Bool.or_eq_true, beq_iff_eq,
    decide_eq_true_eq]
  tauto

theorem execNew_cases {s t : State} (h : execNew s = .next t) :
    Refused s t ∨
    (s.cfg.configured = false ∧ s.ports.capPix ≠ 0#16 ∧ s.ports.spec.timingOk = true ∧
      s.ports.spec.shapeOk = true ∧ t = s.configure.respond .ok 0#3) := by
  unfold execNew at h
  split at h
  · exact .inl (raise_cases (by decide) h)
  · split at h
    · exact .inl (raise_cases (by decide) h)
    · split at h
      · exact .inl (raise_cases (by decide) h)
      · split at h
        · exact .inl (raise_cases (by decide) h)
        · cases h; simp_all

theorem execPrepare_cases {v : Variant} {n : Nat} {s t : State} (h : execPrepare v n s = .next t) :
    Refused s t ∨
    ∃ w, s.cfg.configured = true ∧ s.firstWritable = some w ∧ s.cfg.encodeError v n = none ∧
      t = (s.prepareFrame n w).respond .ok (BitVec.ofNat 3 w) := by
  unfold execPrepare at h
  split at h
  · exact .inl (raise_cases (by decide) h)
  · split at h
    · exact .inl (raise_cases (by decide) h)
    · split at h
      · exact .inl (raise_cases (encodeError_ne_ok ‹_›) h)
      · cases h; exact .inr ⟨_, by simp_all, ‹_›, ‹_›, rfl⟩

theorem execArm_cases {k : Nat} {s t : State} (h : execArm k s = .next t) :
    Refused s t ∨
    (s.cfg.configured = true ∧ s.txState = .idle ∧ k < s.cfg.nbuf ∧ s.owner k = .prepared ∧
      t = (s.armBuffer k).respond .ok 0#3) := by
  unfold execArm at h
  split at h
  · exact .inl (raise_cases (by decide) h)
  · split at h
    · exact .inl (raise_cases (by decide) h)
    · split at h
      · exact .inl (raise_cases (by decide) h)
      · split at h
        · exact .inl (raise_cases (by decide) h)
        · cases h; simp_all [State.handleValid]

theorem execSend_cases {v : Variant} {n : Nat} {s t : State} (h : execSend v n s = .next t) :
    Refused s t ∨
    ∃ w, s.cfg.configured = true ∧ s.txState = .idle ∧ s.firstWritable = some w ∧ s.cfg.encodeError v n = none ∧
      t = ((s.prepareFrame n w).armBuffer w).respond .ok 0#3 := by
  unfold execSend at h
  split at h
  · exact .inl (raise_cases (by decide) h)
  · split at h
    · exact .inl (raise_cases (by decide) h)
    · split at h
      · exact .inl (raise_cases (by decide) h)
      · split at h
        · exact .inl (raise_cases (by decide) h)
        · split at h
          · exact .inl (raise_cases (encodeError_ne_ok ‹_›) h)
          · cases h; exact .inr ⟨_, by simp_all, by simp_all, ‹_›, ‹_›, rfl⟩

theorem execState_cases {s t : State} (h : execState s = .next t) :
    Refused s t ∨ (s.cfg.configured = true ∧ t = s.respond .ok s.txState.code) := by
  unfold execState at h
  split at h
  · exact .inl (raise_cases (by decide) h)
  · cases h; simp_all

theorem execCancel_cases {s t : State} (h : execCancel s = .next t) :
    Refused s t ∨
    (s.cfg.configured = true ∧ s.txState = .idle ∧ t = s.respond .ok 0#3) ∨
    (s.cfg.configured = true ∧ s.txState = .latching ∧ t = s.cancelLatch.respond .ok 0#3) := by
  unfold execCancel at h
  split at h
  · exact .inl (raise_cases (by decide) h)
  · split at h
    · cases h; simp_all
    · cases h; simp_all
    · exact .inl (raise_cases (by decide) h)
    · exact .inl (raise_cases (by decide) h)
    · exact .inl (raise_cases (by decide) h)

theorem execReset_cases {s t : State} (h : execReset s = .next t) :
    Refused s t ∨ (s.cfg.configured = true ∧ t = s.forceIdle.respond .ok 0#3) := by
  unfold execReset at h
  split at h
  · exact .inl (raise_cases (by decide) h)
  · cases h; simp_all

end Sys2Proof.Machine
end

