-- ==== Sys2Proof/Laws/Agents.lean ====
section
/-! SUPPORT. What each step of ENG and DMA can do, and what a move can do, said once (44_engine_steps.md,
45_dma_pwm_agent.md). -/

namespace Sys2Proof.Machine

theorem State.deliver_cases {s t : State} {i : BitVec 32} (h : s.deliver i = .next t) :
    s.elementExists s.dmaSrc.toNat i.toNat = true ∧
    t = { s with
      pwmDuty := s.sample s.dmaSrc.toNat i.toNat
      wave := s.wave ++ [s.sample s.dmaSrc.toNat i.toNat]
      dmaIdx := i + 1#32 } := by
  unfold State.deliver at h
  split at h
  · cases h; exact ⟨‹_›, rfl⟩
  · cases h

/-- The element of a buffer that has been written is what is read. -/
theorem State.sample_eq_of_read {s : State} {b i : Nat} {v : Sample} (h : Mem.read (s.buffer b).data i = some v) :
    s.sample b i = v := by simp [State.sample, h]

theorem EngStep.run_cases {e : EngStep} {s t : State} (h : e.run s = .next t) :
    (e.enabled s = false ∧ t = s) ∨ (e.enabled s = true ∧ e.effect s = .next t) := by
  unfold EngStep.run at h
  split at h
  · exact .inr ⟨‹_›, h⟩
  · cases h; simp_all

theorem DmaStep.run_cases {d : DmaStep} {s t : State} (h : d.run s = .next t) :
    (d.enabled s = false ∧ t = s) ∨ (d.enabled s = true ∧ d.effect s = .next t) := by
  unfold DmaStep.run at h
  split at h
  · exact .inr ⟨‹_›, h⟩
  · cases h; simp_all

theorem stepStart_cases {s t : State} (h : stepStart s = .next t) :
    (s.dmaLen = 0#32 ∧ t = { s with dmaEn := true, pwmRun := true, txState := .transferring }) ∨
    (s.dmaLen ≠ 0#32 ∧ s.elementExists s.dmaSrc.toNat 0 = true ∧
      t = { s with
        dmaEn := true
        pwmRun := true
        txState := .transferring
        pwmDuty := s.sample s.dmaSrc.toNat 0
        wave := s.wave ++ [s.sample s.dmaSrc.toNat 0]
        dmaIdx := 1#32 }) := by
  unfold stepStart at h
  split at h
  · cases h; exact .inl ⟨‹_›, rfl⟩
  · obtain ⟨h1, h2⟩ := State.deliver_cases h
    exact .inr ⟨‹_›, h1, h2⟩

/-- A command word either is illegal and only answered, or runs its command (30_encoding.md R97). -/
theorem runCommand_cases {w : Word} {s t : State} (h : runCommand w s = .next t) :
    (∃ i, decode w = .ok i ∧ exec i s = .next t) ∨
    (∃ e, decode w = .error e ∧ t = s.respond .errIllegalCmd 0#3) := by
  unfold runCommand at h
  split at h
  · exact .inl ⟨_, ‹_›, h⟩
  · cases h; exact .inr ⟨_, ‹_›, rfl⟩

end Sys2Proof.Machine
end

