-- ==== Sys2Proof/Laws/Encoding.lean ====
section
/-! SUPPORT. A command word and its fields (30_encoding.md R91 to R96): a word is its fields put together, and each mask keeps the
opcode and the must-be-zero bits of its format. -/

namespace Sys2Proof

theorem bit_cases {i : Nat} (h : i < 32) : i = 0 ∨ i = 1 ∨ i = 2 ∨ i = 3 ∨ i = 4 ∨ i = 5 ∨ i = 6 ∨ i = 7 ∨ i = 8 ∨ i = 9 ∨
    i = 10 ∨ i = 11 ∨ i = 12 ∨ i = 13 ∨ i = 14 ∨ i = 15 ∨ i = 16 ∨ i = 17 ∨ i = 18 ∨ i = 19 ∨ i = 20 ∨ i = 21 ∨ i = 22 ∨
    i = 23 ∨ i = 24 ∨ i = 25 ∨ i = 26 ∨ i = 27 ∨ i = 28 ∨ i = 29 ∨ i = 30 ∨ i = 31 := by omega

/-- Format F: a word is `OP`, `V`, the zeros, `N`. -/
theorem word_eq_formatF_fields (w : Word) :
    w = opField w ++ (w.extractLsb' 27 1 ++ (w.extractLsb' 16 11 ++ w.extractLsb' 0 16)) := by
  apply BitVec.eq_of_getLsbD_eq
  intro i hi
  simp only [BitVec.getLsbD_append, opField, BitVec.getLsbD_extractLsb']
  rcases bit_cases hi with rfl | rfl | rfl | rfl | rfl | rfl | rfl | rfl | rfl | rfl | rfl | rfl | rfl | rfl | rfl | rfl |
    rfl | rfl | rfl | rfl | rfl | rfl | rfl | rfl | rfl | rfl | rfl | rfl | rfl | rfl | rfl | rfl <;> simp (decide := true)

/-- Format H: a word is `OP`, the zeros, `H`. -/
theorem word_eq_formatH_fields (w : Word) : w = opField w ++ (w.extractLsb' 1 27 ++ w.extractLsb' 0 1) := by
  apply BitVec.eq_of_getLsbD_eq
  intro i hi
  simp only [BitVec.getLsbD_append, opField, BitVec.getLsbD_extractLsb']
  rcases bit_cases hi with rfl | rfl | rfl | rfl | rfl | rfl | rfl | rfl | rfl | rfl | rfl | rfl | rfl | rfl | rfl | rfl |
    rfl | rfl | rfl | rfl | rfl | rfl | rfl | rfl | rfl | rfl | rfl | rfl | rfl | rfl | rfl | rfl <;> simp (decide := true)

theorem and_maskF (w : Word) : w &&& 0xF7FF0000#32 = opField w ++ (0#1 ++ (w.extractLsb' 16 11 ++ 0#16)) := by
  apply BitVec.eq_of_getLsbD_eq
  intro i hi
  simp only [BitVec.getLsbD_and, BitVec.getLsbD_append, opField, BitVec.getLsbD_extractLsb']
  rcases bit_cases hi with rfl | rfl | rfl | rfl | rfl | rfl | rfl | rfl | rfl | rfl | rfl | rfl | rfl | rfl | rfl | rfl |
    rfl | rfl | rfl | rfl | rfl | rfl | rfl | rfl | rfl | rfl | rfl | rfl | rfl | rfl | rfl | rfl <;> simp (decide := true)

theorem and_maskH (w : Word) : w &&& 0xFFFFFFFE#32 = opField w ++ (w.extractLsb' 1 27 ++ 0#1) := by
  apply BitVec.eq_of_getLsbD_eq
  intro i hi
  simp only [BitVec.getLsbD_and, BitVec.getLsbD_append, opField, BitVec.getLsbD_extractLsb']
  rcases bit_cases hi with rfl | rfl | rfl | rfl | rfl | rfl | rfl | rfl | rfl | rfl | rfl | rfl | rfl | rfl | rfl | rfl |
    rfl | rfl | rfl | rfl | rfl | rfl | rfl | rfl | rfl | rfl | rfl | rfl | rfl | rfl | rfl | rfl <;> simp (decide := true)

theorem and_maskZ (w : Word) : w &&& 0xFFFFFFFF#32 = opField w ++ w.extractLsb' 0 28 := by
  apply BitVec.eq_of_getLsbD_eq
  intro i hi
  simp only [BitVec.getLsbD_and, BitVec.getLsbD_append, opField, BitVec.getLsbD_extractLsb']
  rcases bit_cases hi with rfl | rfl | rfl | rfl | rfl | rfl | rfl | rfl | rfl | rfl | rfl | rfl | rfl | rfl | rfl | rfl |
    rfl | rfl | rfl | rfl | rfl | rfl | rfl | rfl | rfl | rfl | rfl | rfl | rfl | rfl | rfl | rfl <;> simp (decide := true)

/-- Fields put together determine the fields. -/
theorem append_eq_append_iff {m n : Nat} {a b : BitVec m} {c d : BitVec n} : a ++ c = b ++ d ↔ a = b ∧ c = d := by
  constructor
  · intro h
    constructor
    · simpa [BitVec.extractLsb'_append_eq_left] using congrArg (fun x => BitVec.extractLsb' n m x) h
    · simpa [BitVec.extractLsb'_append_eq_right] using congrArg (fun x => BitVec.extractLsb' 0 n x) h
  · rintro ⟨rfl, rfl⟩; rfl

end Sys2Proof
end

