-- ==== Sys2Proof/Laws/PerInstr.lean ====
section
/-! SUPPORT. The statements made per command, one lemma per constructor. Family `WordSelectsItsRow`: the word of a command
selects the command's row of the opcode map (30_encoding.md R96), whatever its operands. -/

namespace Sys2Proof

/-- The word of `i` selects the row of `i`. -/
def Laws.WordSelectsItsRow.Statement (i : Instr) : Prop := (rowOf i).selects (encode i) = true

/-- Format F: the mask `0xF7FF0000` keeps the opcode and the eleven zeros. -/
theorem formatF_and_mask (op : BitVec 4) (v : Variant) (n : Nat) :
    formatF op v n &&& 0xF7FF0000#32 = op ++ 0#28 := by
  apply BitVec.eq_of_getLsbD_eq
  intro i hi
  simp only [formatF, BitVec.getLsbD_and, BitVec.getLsbD_append]
  have : i = 0 ∨ i = 1 ∨ i = 2 ∨ i = 3 ∨ i = 4 ∨ i = 5 ∨ i = 6 ∨ i = 7 ∨ i = 8 ∨ i = 9 ∨ i = 10 ∨ i = 11 ∨ i = 12 ∨
      i = 13 ∨ i = 14 ∨ i = 15 ∨ i = 16 ∨ i = 17 ∨ i = 18 ∨ i = 19 ∨ i = 20 ∨ i = 21 ∨ i = 22 ∨ i = 23 ∨ i = 24 ∨
      i = 25 ∨ i = 26 ∨ i = 27 ∨ i = 28 ∨ i = 29 ∨ i = 30 ∨ i = 31 := by omega
  rcases this with rfl | rfl | rfl | rfl | rfl | rfl | rfl | rfl | rfl | rfl | rfl | rfl | rfl | rfl | rfl | rfl |
    rfl | rfl | rfl | rfl | rfl | rfl | rfl | rfl | rfl | rfl | rfl | rfl | rfl | rfl | rfl | rfl <;>
    cases v <;> simp [variantBit]

theorem Laws.WordSelectsItsRow.new : Laws.WordSelectsItsRow.Statement .new := by
  unfold Laws.WordSelectsItsRow.Statement; decide

theorem Laws.WordSelectsItsRow.prepare (v : Variant) (n : Nat) :
    Laws.WordSelectsItsRow.Statement (.prepare v n) := by
  simp only [Laws.WordSelectsItsRow.Statement, OpcodeRow.selects, rowOf, rowPrepare, encode, formatF_and_mask]
  decide

theorem Laws.WordSelectsItsRow.arm (h : Nat) : Laws.WordSelectsItsRow.Statement (.arm h) := by
  simp only [Laws.WordSelectsItsRow.Statement, OpcodeRow.selects, rowOf, rowArm, encode, formatH]
  generalize BitVec.ofNat 1 h = b
  revert b; decide

theorem Laws.WordSelectsItsRow.send (v : Variant) (n : Nat) :
    Laws.WordSelectsItsRow.Statement (.send v n) := by
  simp only [Laws.WordSelectsItsRow.Statement, OpcodeRow.selects, rowOf, rowSend, encode, formatF_and_mask]
  decide

theorem Laws.WordSelectsItsRow.state : Laws.WordSelectsItsRow.Statement .state := by
  unfold Laws.WordSelectsItsRow.Statement; decide

theorem Laws.WordSelectsItsRow.cancel : Laws.WordSelectsItsRow.Statement .cancel := by
  unfold Laws.WordSelectsItsRow.Statement; decide

theorem Laws.WordSelectsItsRow.reset : Laws.WordSelectsItsRow.Statement .reset := by
  unfold Laws.WordSelectsItsRow.Statement; decide

end Sys2Proof
end

