-- ==== Sys2Proof/Laws/Runs.lean ====
section
/-! SUPPORT. What the definitions of Machine/Runs.lean unfold to, and what a move that does not intervene can do while a
transfer is under way, said once (70_reset_and_hazards.md R310, 44_engine_steps.md R219). -/

namespace Sys2Proof.Machine

/-! ## One offered move -/

/-- A step makes the move offered. -/
theorem step_offer (s : State) (m : Move) : step (s.offer m) = perform m (s.offer m).takeMove := rfl

/-- Taking the move offered does not change what is enabled. -/
@[simp] theorem EngStep.enabled_offer (e : EngStep) (s : State) (m : Move) :
    e.enabled (s.offer m).takeMove = e.enabled s := by cases e <;> rfl

@[simp] theorem DmaStep.enabled_offer (d : DmaStep) (s : State) (m : Move) :
    d.enabled (s.offer m).takeMove = d.enabled s := by cases d <;> rfl

theorem runMoves_cons {m : Move} {s t : State} (ms : List Move) (h : step (s.offer m) = .next t) :
    runMoves (m :: ms) s = runMoves ms t := by simp [runMoves, h]

theorem trace_cons {m : Move} {s t : State} (ms : List Move) (h : step (s.offer m) = .next t) :
    trace (m :: ms) s = t.observe :: trace ms t := by simp [trace, h]

/-- A run that begins with `m` makes one step and goes on. -/
theorem runMoves_cons_eq_next {m : Move} {ms : List Move} {s t : State} :
    runMoves (m :: ms) s = .next t ↔ ∃ u, step (s.offer m) = .next u ∧ runMoves ms u = .next t := by
  simp only [runMoves]
  cases step (s.offer m) <;> simp

theorem runMoves_append {ms : List Move} (ms' : List Move) {s t : State} (h : runMoves ms s = .next t) :
    runMoves (ms ++ ms') s = runMoves ms' t := by
  induction ms generalizing s with
  | nil => cases h; rfl
  | cons m ms ih =>
    obtain ⟨u, hu, h⟩ := runMoves_cons_eq_next.1 h
    rw [List.cons_append, runMoves_cons _ hu, ih h]

/-- The first `n` moves of an infinite run are a finite run to its state `n`. -/
theorem IsRun.runMoves {move : Nat → Move} {st : Nat → State} (h : IsRun move st) (n : Nat) :
    runMoves ((List.range n).map move) (st 0) = .next (st n) := by
  induction n with
  | zero => rfl
  | succ n ih =>
    rw [List.range_succ, List.map_append, runMoves_append _ ih]
    exact runMoves_cons _ (h n)

/-- What every step keeps, every finite run keeps. -/
theorem runMoves_induct {P : State → Prop} (hstep : ∀ s t, P s → step s = .next t → P t)
    (hoffer : ∀ s m, P s → P (s.offer m)) {ms : List Move} {s t : State} (hs : P s) (h : runMoves ms s = .next t) :
    P t := by
  induction ms generalizing s with
  | nil => cases h; exact hs
  | cons m ms ih =>
    obtain ⟨u, hu, h⟩ := runMoves_cons_eq_next.1 h
    exact ih (hstep _ _ (hoffer _ _ hs) hu) h

/-! ## Quiescence -/

theorem State.quiescent_iff (s : State) :
    s.quiescent = true ↔
      (∀ e : EngStep, e.enabled s = false) ∧ ∀ d : DmaStep, d ≠ .errRaise → d.enabled s = false := by
  constructor
  · intro h
    simp only [State.quiescent, Bool.and_eq_true, Bool.not_eq_true'] at h
    obtain ⟨⟨⟨⟨⟨⟨h1, h2⟩, h3⟩, h4⟩, h5⟩, h6⟩, h7⟩ := h
    refine ⟨fun e => by cases e <;> assumption, fun d hd => ?_⟩
    cases d with
    | beat => exact h6
    | tcRaise => exact h7
    | errRaise => exact absurd rfl hd
  · rintro ⟨he, hd⟩
    simp [State.quiescent, he, hd]

@[simp] theorem State.quiescent_offer (s : State) (m : Move) : (s.offer m).takeMove.quiescent = s.quiescent := by
  simp [State.quiescent]

theorem EngStep.run_of_not_enabled {e : EngStep} {s : State} (h : e.enabled s = false) : e.run s = .next s := by
  simp [EngStep.run, h]

theorem DmaStep.run_of_not_enabled {d : DmaStep} {s : State} (h : d.enabled s = false) : d.run s = .next s := by
  simp [DmaStep.run, h]

/-- In a quiescent state a step of the core's own does nothing. -/
theorem step_of_quiescent {s : State} {m : Move} (hq : s.quiescent = true) (hm : m.isProgress = true) :
    step (s.offer m) = .next (s.offer m).takeMove := by
  obtain ⟨he, hd⟩ := s.quiescent_iff.1 hq
  rw [step_offer]
  cases m with
  | eng e => exact EngStep.run_of_not_enabled (by simp [he])
  | dma d => exact DmaStep.run_of_not_enabled (by simp [hd d (by simpa [Move.isProgress] using hm)])
  | command w => cases hm
  | pixwr i w => cases hm
  | sbrd b i => cases hm
  | drive p => cases hm
  | lookup v => cases hm
  | rst => cases hm

/-! ## Fairness -/

/-- A finite run that ends quiescent goes on as a fair infinite one, in which the core stays as it is. -/
theorem exists_fair_run {ms : List Move} {s t : State} (h : runMoves ms s = .next t) (hq : t.quiescent = true) :
    ∃ st, st 0 = s ∧ IsRun (fun k => ms.getD k (.eng .start)) st ∧ EngFair (fun k => ms.getD k (.eng .start)) st ∧
      DmaFair (fun k => ms.getD k (.eng .start)) st := by
  induction ms generalizing s with
  | nil =>
    cases h
    let st : Nat → State := fun k => Nat.rec t (fun _ u => (u.offer (.eng .start)).takeMove) k
    have hst : ∀ k, (st k).quiescent = true := by
      intro k
      induction k with
      | zero => exact hq
      | succ k ih => exact (State.quiescent_offer _ _).trans ih
    refine ⟨st, rfl, fun k => step_of_quiescent (hst k) rfl, fun e k he => ?_, fun d hd k he => ?_⟩
    · have := ((st k).quiescent_iff.1 (hst k)).1 e
      rw [he k (Nat.le_refl k)] at this; cases this
    · have := ((st k).quiescent_iff.1 (hst k)).2 d hd
      rw [he k (Nat.le_refl k)] at this; cases this
  | cons m ms ih =>
    obtain ⟨u, hu, h⟩ := runMoves_cons_eq_next.1 h
    obtain ⟨st, h0, hr, hE, hD⟩ := ih h
    refine ⟨fun k => Nat.casesOn k s st, rfl, fun k => ?_, fun e k he => ?_, fun d hd k he => ?_⟩
    · cases k with
      | zero => show step (s.offer m) = .next (st 0); rw [h0]; exact hu
      | succ k => exact hr k
    · obtain ⟨j, hj, hm⟩ := hE e k (fun j hj => he (j + 1) (by omega))
      exact ⟨j + 1, by omega, hm⟩
    · obtain ⟨j, hj, hm⟩ := hD d hd k (fun j hj => he (j + 1) (by omega))
      exact ⟨j + 1, by omega, hm⟩

/-! ## Other moves during a transfer -/

/-- A move of the host that does not intervene leaves a transfer under way alone: it may prepare another buffer, write
`PIX`, drive the ports, and answer. -/
theorem perform_host_during_transfer {m : Move} {s t : State} {b : Nat} (hc : s.cfg.configured = true)
    (hx : s.txState ≠ .idle) (hb : b < 2) (ho : s.owner b = .inflight) (hm : m.isHost = true)
    (hi : m.intervenes s = false) (h : perform m s = .next t) :
    t.buffer b = s.buffer b ∧
      t = { s with sb0 := t.sb0, sb1 := t.sb1, pix := t.pix, ports := t.ports, rsp := t.rsp, sbData := t.sbData } := by
  have refused : Refused s t → t.buffer b = s.buffer b ∧
      t = { s with sb0 := t.sb0, sb1 := t.sb1, pix := t.pix, ports := t.ports, rsp := t.rsp, sbData := t.sbData } := by
    rintro ⟨st, _, rfl⟩; exact ⟨rfl, rfl⟩
  cases m with
  | command w =>
    rcases runCommand_cases h with ⟨i, hd, he⟩ | ⟨_, _, rfl⟩
    · cases i with
      | new =>
        rcases execNew_cases he with hr | ⟨h1, _⟩
        · exact refused hr
        · rw [hc] at h1; cases h1
      | prepare v n =>
        rcases execPrepare_cases he with hr | ⟨u, _, hf, _, rfl⟩
        · exact refused hr
        · have hu := (State.firstWritable_eq_some.1 hf).2.1
          have hne : b ≠ u := by rintro rfl; rw [ho] at hu; cases hu
          refine ⟨?_, ?_⟩
          · rw [State.buffer_respond, State.buffer_prepareFrame_other s n (State.firstWritable_lt_two hf) hb hne]
          · rw [State.prepareFrame_eq]; unfold State.setBuffer; split <;> rfl
      | arm k =>
        rcases execArm_cases he with hr | ⟨_, h1, _⟩
        · exact refused hr
        · exact absurd h1 hx
      | send v n =>
        rcases execSend_cases he with hr | ⟨_, _, h1, _⟩
        · exact refused hr
        · exact absurd h1 hx
      | state =>
        rcases execState_cases he with hr | ⟨_, rfl⟩
        · exact refused hr
        · exact ⟨rfl, rfl⟩
      | cancel =>
        rcases execCancel_cases he with hr | ⟨_, h1, _⟩ | ⟨_, h1, _⟩
        · exact refused hr
        · exact absurd h1 hx
        · simp [Move.intervenes, hd, h1] at hi
      | reset => simp [Move.intervenes, hd] at hi
    · exact ⟨rfl, rfl⟩
  | pixwr i w => cases h; exact ⟨rfl, rfl⟩
  | sbrd c i => cases h; exact ⟨rfl, rfl⟩
  | drive p => cases h; exact ⟨rfl, rfl⟩
  | lookup v => cases h; exact ⟨rfl, rfl⟩
  | eng e => cases hm
  | dma d => cases hm
  | rst => cases hm

/-- A move that does not intervene is a host's or the core's own. -/
theorem Move.isHost_or_isProgress {m : Move} {s : State} (h : m.intervenes s = false) :
    m.isHost = true ∨ m.isProgress = true := by
  cases m <;> simp_all [Move.isHost, Move.isProgress, Move.intervenes]

end Sys2Proof.Machine
end

