-- ==== Sys2Proof/Tests/Slice0.lean ====
section
/-! SUPPORT. The model's own tests: ill-formed commands, words written out from 30_encoding.md R96, one-step vectors of
95_test_vectors.md, and for every obligation with hypotheses a witness that meets them together. -/

namespace Sys2Proof.Tests

open Sys2Proof.Machine

/-! ## Well-formedness (30_encoding.md R93, R94) -/

theorem test_prepare_count_too_big : Instr.wellFormed (.prepare .rgb 65536) = false := by decide
theorem test_send_count_too_big : Instr.wellFormed (.send .rgbw 65536) = false := by decide
theorem test_arm_handle_too_big : Instr.wellFormed (.arm 2) = false := by decide
theorem test_largest_operands :
    Instr.wellFormed (.prepare .rgbw 65535) = true ∧ Instr.wellFormed (.send .rgb 0) = true ∧
      Instr.wellFormed (.arm 1) = true := by decide

/-! ## Decoding, from the words of 30_encoding.md R96 written out bit by bit -/

theorem test_decode_new : decode 0b00010000000000000000000000000000#32 = .ok .new := rfl
/-- `PREPARE rgbw, 65535` is `0x2800FFFF`. -/
theorem test_decode_prepare : decode 0b00101000000000001111111111111111#32 = .ok (.prepare .rgbw 65535) := rfl
/-- `ARM 1` is `0x30000001`. -/
theorem test_decode_arm : decode 0b00110000000000000000000000000001#32 = .ok (.arm 1) := rfl
/-- `SEND rgb, 3` is `0x40000003`. -/
theorem test_decode_send : decode 0b01000000000000000000000000000011#32 = .ok (.send .rgb 3) := rfl
theorem test_decode_state : decode 0b01010000000000000000000000000000#32 = .ok .state := rfl
theorem test_decode_cancel : decode 0b01100000000000000000000000000000#32 = .ok .cancel := rfl
theorem test_decode_reset : decode 0b01110000000000000000000000000000#32 = .ok .reset := rfl

/-- The words of 95_test_vectors.md V18. -/
theorem test_illegal_words :
    ([0x00000000#32, 0x80000000#32, 0xF0000000#32, 0xFFFFFFFF#32, 0x10000001#32, 0x20010003#32, 0x44000003#32,
      0x30000002#32, 0x38000000#32, 0x50000001#32, 0x60000100#32, 0x78000000#32].any fun w =>
      opcodeMap.any fun r => r.selects w) = false := by decide

theorem test_illegal_reason :
    decode 0#32 = .error .unassignedOpcode ∧ decode 0x80000000#32 = .error .unassignedOpcode ∧
      decode 0x38000000#32 = .error .mustBeZero := ⟨rfl, rfl, rfl⟩

/-- The encoder gives the example words of 30_encoding.md R96. -/
theorem test_encode_examples :
    encode (.send .rgb 3) = 0x40000003#32 ∧ encode (.send .rgbw 1) = 0x48000001#32 ∧
      encode (.prepare .rgb 3) = 0x20000003#32 ∧ encode (.prepare .rgbw 65535) = 0x2800FFFF#32 ∧
      encode (.arm 1) = 0x30000001#32 := by decide

theorem test_table_words :
    decodeTableWord 32 0x30000000 = some (.arm 0) ∧ decodeTableWord 32 0x80000000 = none := ⟨rfl, rfl⟩

/-! ## Small states -/

/-- The state an outcome gives, if it is a next state. -/
def after : Host.Outcome State Fault Refusal → Option State
  | .next s => some s
  | .fault _ => none
  | .refused _ => none

/-- One field of the state an outcome gives. -/
def field {α : Type} (o : Host.Outcome State Fault Refusal) (f : State → α) : Option α := (after o).map f

/-- The ports of 95_test_vectors.md V1: `period=100, t0=32, t1=64, reset=250, order=GRB, bpc=8, cap=3, double=0`. -/
def portsV1 : CfgPorts := ⟨⟨100#16, 32#16, 64#16, 250#32, 3#3, 0x21#8, 8#4⟩, 3#16, false⟩

/-- V5: `period=25, t0=8, t1=16, reset=1000, order=GRB, bpc=8, cap=2, double=1`. -/
def portsV5 : CfgPorts := ⟨⟨25#16, 8#16, 16#16, 1000#32, 3#3, 0x21#8, 8#4⟩, 2#16, true⟩

/-- V6: `period=10, t0=3, t1=6, reset=95, order=GRBW, bpc=8, cap=1, double=0`. -/
def portsV6 : CfgPorts := ⟨⟨10#16, 3#16, 6#16, 95#32, 4#3, 0xE1#8, 8#4⟩, 1#16, false⟩

/-- V2 row 11: the largest frame. -/
def portsMax : CfgPorts := ⟨⟨3#16, 1#16, 2#16, 0xFFFFFFFF#32, 4#3, 0xE1#8, 8#4⟩, 65535#16, true⟩

/-- V2 row 10: V1 with `reset=0`. -/
def portsNoTrailer : CfgPorts := { portsV1 with spec := { portsV1.spec with resetTicks := 0#32 } }

/-- A fresh core with ports driven. -/
def fresh (p : CfgPorts) : State := { State.reset with ports := p }

/-- A configured core in `Idle` with the given pixels. -/
def idle (p : CfgPorts) (pixels : Mem 32) : State :=
  { State.reset with cfg := p.toRegs, pwmPeriod := p.spec.bitPeriod, ports := p, pix := pixels }

/-- The pixels of V1. -/
def pixV1 : Mem 32 := [(0, 0x000000FF#32), (1, 0x0000FF00#32), (2, 0x00FF0000#32)]

def idleV1 : State := idle portsV1 pixV1
def preparedV1 (n : Nat) : State := idleV1.prepareFrame n 0
def armedV1 (n : Nat) : State := (preparedV1 n).armBuffer 0

/-- `Transferring` after START on the V1 pixels: sample 0 is `T0_HIGH`. -/
def sendingV1 (n : Nat) : State :=
  { armedV1 n with
    dmaEn := true, pwmRun := true, pwmDuty := 32#16, wave := [32#16], dmaIdx := 1#32, txState := .transferring }

/-- `Transferring` with everything delivered and the completion pending, for a frame of trailer only. -/
def completeV1 : State :=
  { armedV1 0 with
    dmaEn := true, pwmRun := true, wave := [0#16, 0#16, 0#16], dmaIdx := 3#32, txState := .transferring, tcPend := true }

def latchingV1 : State :=
  { armedV1 0 with
    dmaEn := false, pwmRun := true, wave := [0#16, 0#16, 0#16], dmaIdx := 3#32, txState := .latching }

def faultedV1 : State := (sendingV1 1).enterFaulted

/-- With an error pending. -/
def withError (s : State) : State := { s with errPend := true }

/-! ## One-step vectors -/

theorem test_new_ok :
    field (exec .new (fresh portsV1)) (fun t => (t.rsp, t.cfg.bpp, t.cfg.resetSamples, t.cfg.sbCap, t.cfg.nbuf)) =
      some (some ⟨.ok, 0#3⟩, 24, 3, 75, 1) := by decide
/-- V2 rows 2 to 7, 12 to 16 and 19. -/
theorem test_new_refuses :
    ∀ p ∈ [{ portsV1 with capPix := 0#16 },
      { portsV1 with spec := { portsV1.spec with t0High := 0#16 } },
      { portsV1 with spec := { portsV1.spec with t0High := 64#16 } },
      { portsV1 with spec := { portsV1.spec with t0High := 65#16 } },
      { portsV1 with spec := { portsV1.spec with t1High := 100#16 } },
      { portsV1 with spec := { portsV1.spec with bitPeriod := 64#16 } },
      { portsV1 with spec := { portsV1.spec with bitsPerChannel := 7#4 } },
      { portsV1 with spec := { portsV1.spec with chCount := 2#3 } },
      { portsV1 with spec := { portsV1.spec with chCount := 5#3 } },
      { portsV1 with spec := { portsV1.spec with chOrder := 0x11#8 } },
      { portsV1 with spec := { portsV1.spec with chOrder := 0x31#8 } },
      { portsV1 with spec := { portsV1.spec with chCount := 4#3, chOrder := 0xA1#8 } }],
      field (exec .new (fresh p)) (fun t => (t.rsp, t.cfg)) = some (some ⟨.errConfig, 0#3⟩, CfgRegs.reset) := by decide

/-- V3. -/
theorem test_ceiling :
    ceilDiv 0 100 = 0 ∧ ceilDiv 100 100 = 1 ∧ ceilDiv 101 100 = 2 ∧ ceilDiv 95 10 = 10 ∧
      ceilDiv 4294967295 3 = 1431655765 := by decide

/-- V1, the source's scenario: length, owner, and the samples. -/
theorem test_prepare_v1 :
    field (exec (.prepare .rgb 3) idleV1)
        (fun t => (t.rsp, t.sbLen 0, t.owner 0, (List.range 75).map (t.sample 0))) =
      some (some ⟨.ok, 0#3⟩, 75#32, .prepared,
        List.replicate 8 32#16 ++ List.replicate 8 64#16 ++ List.replicate 8 32#16 ++ List.replicate 8 64#16 ++
        List.replicate 32 32#16 ++ List.replicate 8 64#16 ++ List.replicate 3 0#16) := by decide
/-- V6: four channels in the order GRBW. -/
theorem test_prepare_v6 :
    field (exec (.prepare .rgbw 1) (idle portsV6 [(0, 0x55FF0180#32)])) (fun t => (List.range 32).map (t.sample 0)) =
      some [3, 3, 3, 3, 3, 3, 3, 6, 6, 3, 3, 3, 3, 3, 3, 3, 6, 6, 6, 6, 6, 6, 6, 6, 3, 6, 3, 6, 3, 6, 3, 6] := by decide
/-- V7: the capacity check comes first. -/
theorem test_encode_errors :
    portsV6.toRegs.encodeError .rgb 1 = some .errChannelMismatch ∧
      portsV6.toRegs.encodeError .rgb 2 = some .errBufTooSmall ∧
      portsV6.toRegs.encodeError .rgbw 65535 = some .errBufTooSmall ∧
      portsV6.toRegs.encodeError .rgb 0 = some .errChannelMismatch ∧
      portsV1.toRegs.encodeError .rgb 3 = none := by decide

/-- V11 step 4: a single-buffered core has no handle 1. -/
theorem test_arm_bad_handle :
    field (exec (.arm 1) (preparedV1 3)) State.rsp = some (some ⟨.errBadHandle, 0#3⟩) := by decide
theorem test_arm_ok :
    field (exec (.arm 0) (preparedV1 3))
        (fun t => (t.rsp, t.txState, t.dmaSrc, t.dmaLen, t.dmaIdx, t.owner 0)) =
      some (some ⟨.ok, 0#3⟩, .arming, 0#1, 75#32, 0#32, .inflight) := by decide

/-- P1, line 6. -/
theorem test_send_v1 :
    field (exec (.send .rgb 3) idleV1) (fun t => (t.rsp, t.txState, t.dmaLen, t.sbLen 0, t.owner 0, t.dmaEn)) =
      some (some ⟨.ok, 0#3⟩, .arming, 75#32, 75#32, .inflight, false) := by decide
/-- V14. -/
theorem test_send_busy :
    field (exec (.send .rgb 3) (sendingV1 1)) (fun t => (t.rsp, t.sb0)) =
      some (some ⟨.errBusy, 0#3⟩, (sendingV1 1).sb0) := by decide

/-- V13, row STATE. -/
theorem test_state_row :
    [idleV1, armedV1 1, sendingV1 1, latchingV1, faultedV1].map (fun s => field (exec .state s) State.rsp) =
      [0#3, 1#3, 2#3, 3#3, 4#3].map (fun v => some (some ⟨.ok, v⟩)) := by decide
theorem test_state_unconfigured :
    field (exec .state (fresh portsV1)) State.rsp = some (some ⟨.errConfig, 0#3⟩) := by decide

/-- V16. -/
theorem test_cancel_latching :
    field (exec .cancel latchingV1) (fun t => (t.rsp, t.txState, t.owner 0, t.pwmRun, t.done)) =
      some (some ⟨.ok, 0#3⟩, .idle, .writable, false, false) := by decide
theorem test_cancel_transferring :
    field (exec .cancel (sendingV1 1)) (fun t => (t.rsp, t.dmaIdx, t.pwmDuty, t.dmaEn)) =
      some (some ⟨.errNotCancelable, 0#3⟩, 1#32, 32#16, true) := by decide

/-- V17. -/
theorem test_reset_transferring :
    field (exec .reset (sendingV1 1)) (fun t => (t.txState, t.pwmDuty, t.owner 0, t.dmaIdx, t.wave)) =
      some (.idle, 0#16, .writable, 1#32, [32#16]) := by decide
theorem test_reset_faulted :
    field (exec .reset (withError faultedV1)) (fun t => (t.txState, t.owner 0, t.errPend)) =
      some (.idle, .writable, false) := by decide

/-- V20. -/
theorem test_start :
    field (perform (.eng .start) (armedV1 3)) (fun t => (t.pwmDuty, t.dmaIdx, t.wave, t.txState, t.dmaEn, t.pwmRun)) =
      some (32#16, 1#32, [32#16], .transferring, true, true) := by decide
/-- V20: the ninth delivery puts 64 in `PWM_DUTY`. -/
theorem test_ninth_delivery :
    field (perform (.dma .beat) { sendingV1 3 with dmaIdx := 8#32 }) (fun t => (t.pwmDuty, t.dmaIdx)) =
      some (64#16, 9#32) := by decide
/-- V21 and V15. -/
theorem test_complete :
    field (perform (.eng .complete) completeV1) (fun t => (t.txState, t.latchCnt, t.pwmDuty, t.pwmRun, t.dmaEn)) =
      some (.latching, 0#32, 0#16, true, false) := by decide
theorem test_latch_done :
    field (perform (.eng .latchDone) latchingV1) (fun t => (t.txState, t.done, t.owner 0)) =
      some (.idle, true, .writable) := by decide
/-- V22. -/
theorem test_fault :
    field (perform (.eng .fault) (withError (sendingV1 1)))
        (fun t => (t.txState, t.owner 0, t.inflightValid, t.dmaEn, t.faultPin)) =
      some (.faulted, .unusable, false, false, true) := by decide
/-- V19: with both pending FAULT wins. -/
theorem test_error_wins :
    EngStep.enabled .complete (withError completeV1) = false ∧ EngStep.enabled .fault (withError completeV1) = true := by
  decide
/-- V1: `SBRD 0, 8` returns 64. -/
theorem test_sbrd :
    field (perform (.sbrd 0#1 8#32) (preparedV1 3)) State.sbData = some (some 64#16) := by decide
/-- The byte view of 20_memory.md R62: bytes 0 and 1 of the third pixel of V1 are R and G. -/
theorem test_pixel_bytes : idleV1.pixByte 8 = 0x00#8 ∧ idleV1.pixByte 10 = 0xFF#8 := by decide

/-- A command word placed for the next step after reset is the instruction that step runs (30_encoding.md R97, 40_config.md
R128). -/
theorem test_first_step :
    field (step (State.reset.withFetchWord 32 0x50000000)) State.rsp = some (some ⟨.errConfig, 0#3⟩) ∧
      field (step (State.reset.withFetchWord 32 0)) State.rsp = some (some ⟨.errIllegalCmd, 0#3⟩) := by decide

/-! ## Witnesses: for every obligation with hypotheses, states and operands that meet them together -/

/-! ### The hypotheses on CFG and the invariant -/

theorem legal_v1 : portsV1.toRegs.Legal := by constructor <;> decide
theorem legal_v5 : portsV5.toRegs.Legal := by constructor <;> decide
theorem legal_v6 : portsV6.toRegs.Legal := by constructor <;> decide
theorem legal_max : portsMax.toRegs.Legal := by constructor <;> decide

theorem inv_idleV1 : idleV1.Inv := by
  refine ⟨by decide, fun h => absurd h (by decide), fun _ => legal_v1, rfl, fun _ => rfl, ?_, ?_, rfl,
    fun h => absurd h (by decide), ?_, ?_, fun _ => ⟨rfl, rfl⟩, fun h => absurd h (by decide),
    fun h => absurd h (by decide), fun h => absurd h (by decide), by decide, fun h => absurd h (by decide), rfl,
    fun h => absurd h (by decide), .inl rfl, fun v h => absurd h (by simp [idleV1, idle, State.reset])⟩
  · decide
  · intro b hb
    have : b = 0 := by change b < 1 at hb; omega
    subst this; exact .inl ⟨rfl, rfl⟩
  · decide
  · decide

/-- A core in `Idle` with the empty frame, three trailer samples, prepared. -/
theorem inv_preparedV1 : (preparedV1 0).Inv := by
  refine ⟨by decide, fun h => absurd h (by decide), fun _ => legal_v1, rfl, fun _ => rfl, by decide, ?_, rfl,
    fun h => absurd h (by decide), by decide, by decide, fun _ => ⟨rfl, rfl⟩, fun h => absurd h (by decide),
    fun h => absurd h (by decide), fun h => absurd h (by decide), by decide, fun h => absurd h (by decide), rfl,
    fun h => absurd h (by decide), .inl rfl, fun v h => absurd h (by simp [preparedV1, idleV1, idle, State.reset])⟩
  intro b hb
  have : b = 0 := by change b < 1 at hb; omega
  subst this; exact .inr ⟨0, by decide, by decide, by decide, by decide⟩

theorem frame_one : (sendingV1 1).sb0.HoldsFrame (sendingV1 1).cfg :=
  ⟨1, by decide, by decide, by decide, by decide⟩

theorem inv_sendingV1 : (sendingV1 1).Inv := by
  refine ⟨by decide, fun h => absurd h (by decide), fun _ => legal_v1, rfl, fun _ => rfl, by decide, ?_, rfl, by decide,
    by decide, by decide, fun h => absurd h (by decide), fun h => absurd h (by decide), fun _ => ⟨rfl, rfl⟩,
    fun h => absurd h (by decide), by decide, fun h => absurd h (by decide), rfl, fun h => absurd h (by decide),
    .inr (.inl rfl), ?_⟩
  · intro b hb
    have : b = 0 := by change b < 1 at hb; omega
    subst this; exact .inr frame_one
  · intro v hv
    have : v = 32#16 := by simpa [sendingV1] using hv
    exact .inr (.inl this)

/-! ### Encoding and steps -/

theorem witness_DecodeOfEncodeIsTheCommand :
    Instr.wellFormed (.prepare .rgbw 65535) = true ∧ Instr.wellFormed (.arm 0) = true ∧
      Instr.wellFormed .new = true := by decide

theorem witness_EncodeOfDecodeIsTheWord : ∃ w i, decode w = .ok i := ⟨0x48000001#32, .send .rgbw 1, rfl⟩

theorem witness_RowsSelectByOpcodeAndZeroBits :
    ∃ w, ∃ r ∈ opcodeMap, ∃ r' ∈ opcodeMap, r.selects w = true ∧ r'.selects w = true :=
  ⟨0x30000001#32, rowArm, by decide, rowArm, by decide, by decide, by decide⟩

theorem witness_IllegalWordIsAnsweredAndChangesNothing :
    (∀ r ∈ opcodeMap, r.selects 0x38000000#32 = false) ∧ opcodeAssigned 0x00000000#32 = false ∧
      opcodeAssigned 0x80000000#32 = false ∧ opcodeAssigned 0xF0000000#32 = false ∧
      (opField 0x10000001#32 = 1#4 ∧ BitVec.extractLsb' 0 28 0x10000001#32 ≠ 0#28) ∧
      (opField 0x78000000#32 = 7#4 ∧ BitVec.extractLsb' 0 28 0x78000000#32 ≠ 0#28) ∧
      (opField 0x30000002#32 = 3#4 ∧ BitVec.extractLsb' 1 27 0x30000002#32 ≠ 0#27) ∧
      (opField 0x20010003#32 = 2#4 ∧ BitVec.extractLsb' 16 11 0x20010003#32 ≠ 0#11) ∧
      (opField 0x44000003#32 = 4#4 ∧ BitVec.extractLsb' 16 11 0x44000003#32 ≠ 0#11) ∧
      ∃ r ∈ opcodeMap, r.selects 0x70000000#32 = true := by decide

theorem witness_StepMakesTheNextMove :
    (∃ s : State, ∃ m rest, s.inbox = m :: rest) ∧ ∃ s : State, s.inbox = [] :=
  ⟨⟨{ idleV1 with inbox := [.rst] }, .rst, [], rfl⟩, State.reset, rfl⟩

theorem witness_StepRunsTheDecodedCommand :
    ∃ s : State, ∃ w rest i, s.inbox = .command w :: rest ∧ decode w = .ok i :=
  ⟨{ idleV1 with inbox := [.command 0x40000003#32, .eng .start] }, _, _, .send .rgb 3, rfl, rfl⟩

theorem witness_ResponseValueIsHandleStateOrZero :
    (∃ w e t, decode w = .error e ∧ perform (.command w) idleV1 = .next t) ∧
      (∃ t r, exec (.prepare .rgb 0) idleV1 = .next t ∧ t.rsp = some r ∧ r.status = .ok) ∧
      (∃ t r, exec .state latchingV1 = .next t ∧ t.rsp = some r ∧ r.status = .ok) ∧
      (∃ t r, exec .cancel latchingV1 = .next t ∧ t.rsp = some r ∧ r.status = .ok) ∧
      ∃ t r, exec (.prepare .rgb 0) (armedV1 0) = .next t ∧ t.rsp = some r ∧ r.status ≠ .ok :=
  ⟨⟨0#32, _, _, rfl, rfl⟩, ⟨_, _, rfl, rfl, rfl⟩, ⟨_, _, rfl, rfl, rfl⟩, ⟨_, _, rfl, rfl, rfl⟩,
    _, _, rfl, rfl, by decide⟩

theorem witness_ErrorsChangeNoState :
    ∃ t r, exec .cancel (sendingV1 1) = .next t ∧ t.rsp = some r ∧ r.status ≠ .ok := ⟨_, _, rfl, rfl, by decide⟩

theorem witness_CommandsDoNotReadPendingBits :
    ∃ t t', exec (.send .rgb 3) idleV1 = .next t ∧
      exec (.send .rgb 3) { idleV1 with tcPend := true, errPend := true } = .next t' := ⟨_, _, rfl, rfl⟩

theorem witness_PixelWritesDoNotReachTheTransfer :
    (∃ t, perform (.eng .start) (armedV1 1) = .next t) ∧ ∃ t, perform (.dma .beat) (sendingV1 1) = .next t :=
  ⟨⟨_, rfl⟩, _, rfl⟩

/-! ### NEW -/

/-- The hypotheses of `NewConfiguresTheCore` on the ports. -/
def NewPorts (p : CfgPorts) : Prop :=
  p.capPix ≠ 0#16 ∧ 0 < p.spec.t0High.toNat ∧ p.spec.t0High.toNat < p.spec.t1High.toNat ∧
    p.spec.t1High.toNat < p.spec.bitPeriod.toNat ∧ p.spec.bitsPerChannel = 8#4 ∧
    (p.spec.chCount = 3#3 ∨ p.spec.chCount = 4#3) ∧
    ((List.range p.spec.chCount.toNat).map p.spec.channelAt).Nodup ∧
    (p.spec.chCount = 3#3 → ∀ k < 3, p.spec.channelAt k ≠ 3#2)

theorem witness_NewConfiguresTheCore :
    (fresh portsV1).cfg.configured = false ∧ NewPorts portsV1 ∧ NewPorts portsMax ∧ NewPorts portsNoTrailer := by
  unfold NewPorts; decide

theorem witness_NewRefusesABadConfiguration :
    idleV1.cfg.configured = true ∧ ({ portsV1 with capPix := 0#16 } : CfgPorts).capPix = 0#16 ∧
      ({ portsV1.spec with t0High := 0#16 } : TimingSpec).t0High = 0#16 ∧
      (64#16).toNat ≤ ({ portsV1.spec with t0High := 64#16 } : TimingSpec).t0High.toNat ∧
      ({ portsV1.spec with bitPeriod := 64#16 } : TimingSpec).bitPeriod.toNat ≤ portsV1.spec.t1High.toNat ∧
      ({ portsV1.spec with bitsPerChannel := 7#4 } : TimingSpec).bitsPerChannel ≠ 8#4 ∧
      (2#3 ≠ 3#3 ∧ 2#3 ≠ 4#3) ∧
      ({ portsV1.spec with chOrder := 0x11#8 } : TimingSpec).channelAt 0 =
        ({ portsV1.spec with chOrder := 0x11#8 } : TimingSpec).channelAt 2 ∧
      ({ portsV1.spec with chOrder := 0x31#8 } : TimingSpec).channelAt 2 = 3#2 := by decide

theorem witness_UnconfiguredCommandsAreRefused :
    (fresh portsV1).cfg.configured = false ∧ (∃ i, decode 0x70000000#32 = .ok i ∧ i ≠ .new) ∧
      ∃ e, decode 0x10000001#32 = .error e := ⟨rfl, ⟨.reset, rfl, by decide⟩, _, rfl⟩

theorem witness_ConfigurationIsImmutable :
    (∃ t, perform (.command 0x10000000#32) (fresh portsV1) = .next t ∧ t.cfg ≠ (fresh portsV1).cfg) ∧
      ∃ t, perform .rst idleV1 = .next t ∧ t.cfg ≠ idleV1.cfg := ⟨⟨_, rfl, by decide⟩, _, rfl, by decide⟩

theorem witness_TimingOrderHoldsOnceConfigured :
    (idleV1.Inv ∧ idleV1.cfg.configured = true) ∧
      (Move.command 0x10000000#32 ≠ .rst ∧ ∃ t, perform (.command 0x10000000#32) idleV1 = .next t) ∧
      ∃ t r, exec .new (fresh portsV1) = .next t ∧ t.rsp = some r ∧ r.status = .ok :=
  ⟨⟨inv_idleV1, rfl⟩, ⟨by decide, _, rfl⟩, _, _, rfl, rfl, rfl⟩

/-! ### The encoder -/

/-- The largest configuration: the bounds of 00_scope.md R9 are met with equality. -/
theorem witness_DerivedLengthsFitAndCoverTheLatchTime :
    portsMax.toRegs.Legal ∧ portsMax.toRegs.resetSamples = 1431655765 ∧ portsMax.toRegs.sbCap = 1433752885 ∧
      portsMax.toRegs.resetTicks.toNat ≤ 1431655765 * portsMax.toRegs.bitPeriod.toNat :=
  ⟨legal_max, by decide, by decide, by decide⟩

theorem witness_EncoderChecksCapacityThenVariant :
    portsV6.toRegs.Legal ∧ portsV6.toRegs.capPix.toNat < 2 ∧
      (1 ≤ portsV6.toRegs.capPix.toNat ∧ ¬(Variant.rgb = .rgbw ↔ portsV6.toRegs.chCount = 4#3)) ∧
      (Variant.rgbw = .rgbw ↔ portsV6.toRegs.chCount = 4#3) := ⟨legal_v6, by decide⟩

theorem witness_FrameSampleClosedForm :
    portsV6.toRegs.Legal ∧ [0x55FF0180#32][0]? = some 0x55FF0180#32 ∧ portsV6.toRegs.order[3]? = some 3#2 ∧ 7 ≤ 7 :=
  ⟨legal_v6, by decide⟩

theorem witness_FrameLengthAndValueLaws :
    portsV6.toRegs.Legal ∧ 31 < [0x55FF0180#32].length * portsV6.toRegs.bpp ∧
      [0x55FF0180#32].length * portsV6.toRegs.bpp ≤ 32 ∧ 41 < portsV6.toRegs.frameLen [0x55FF0180#32].length :=
  ⟨legal_v6, by decide⟩

/-- V4, the tightest threshold: `T1_HIGH = T0_HIGH + 1`. -/
theorem witness_ThresholdReadingRecoversEveryByte :
    portsMax.toRegs.Legal ∧ [0x00563412#32][0]? = some 0x00563412#32 ∧ portsMax.toRegs.order[2]? = some 2#2 ∧
      portsMax.toRegs.t0High ∈ (portsMax.toRegs.pixelSamples 0x00563412#32) ∧
      portsMax.toRegs.t0High.toNat = portsMax.toRegs.threshold := ⟨legal_max, by decide⟩

/-- V9: the same pixel into buffer 0 and into buffer 1. -/
theorem witness_EncodingIsDeterministic :
    let s := idle portsV5 [(0, 0x00013CA5#32)]
    ∃ s' t t' r r', s.cfg = s'.cfg ∧ s.cfg.Legal ∧ (∀ p, p < 1 → s.pixel p = s'.pixel p) ∧
      s.firstWritable = some 0 ∧ s'.firstWritable = some 1 ∧ exec (.prepare .rgb 1) s = .next t ∧ t.rsp = some r ∧
      exec (.prepare .rgb 1) s' = .next t' ∧ t'.rsp = some r' ∧ r.status = .ok :=
  ⟨(idle portsV5 [(0, 0x00013CA5#32)]).prepareFrame 1 0, _, _, _, _, rfl, legal_v5,
    fun p hp => by
      have : p = 0 := by omega
      subst this; rfl, by decide, by decide, rfl, rfl, rfl, rfl, rfl⟩

/-! ### PREPARE, ARM, SEND -/

/-- A double-buffered core with buffer 0 taken. -/
def halfV5 : State := (idle portsV5 [(0, 0x00013CA5#32)]).prepareFrame 1 0

theorem witness_PrepareEncodesIntoTheLowestWritable :
    halfV5.cfg.configured = true ∧ 1 < halfV5.cfg.nbuf ∧ halfV5.owner 1 = .writable ∧
      (∀ b, b < 1 → halfV5.owner b ≠ .writable) ∧ 2 ≤ halfV5.cfg.capPix.toNat ∧
      (Variant.rgb = .rgbw ↔ halfV5.cfg.chCount = 4#3) := by decide

theorem witness_PrepareRefusesInOrder :
    (preparedV1 0).cfg.configured = true ∧ (∀ b, b < (preparedV1 0).cfg.nbuf → (preparedV1 0).owner b ≠ .writable) ∧
      idleV1.cfg.configured = true ∧ (0 < idleV1.cfg.nbuf ∧ idleV1.owner 0 = .writable) ∧
      idleV1.cfg.sbCap < 4 * idleV1.cfg.bpp + idleV1.cfg.resetSamples ∧
      3 * idleV1.cfg.bpp + idleV1.cfg.resetSamples ≤ idleV1.cfg.sbCap ∧
      ¬(Variant.rgbw = .rgbw ↔ idleV1.cfg.chCount = 4#3) := by decide

theorem witness_ArmHandsOverThePreparedBuffer :
    (preparedV1 3).cfg.configured = true ∧ (preparedV1 3).txState = .idle ∧ 0 < (preparedV1 3).cfg.nbuf ∧
      (preparedV1 3).owner 0 = .prepared := by decide

theorem witness_ArmRefusesInOrder :
    (faultedV1.cfg.configured = true ∧ faultedV1.txState = .faulted) ∧
      ((armedV1 0).cfg.configured = true ∧ (armedV1 0).txState = .arming) ∧
      (sendingV1 1).txState = .transferring ∧ latchingV1.txState = .latching ∧
      (idleV1.cfg.configured = true ∧ idleV1.txState = .idle ∧ idleV1.cfg.nbuf ≤ 1 ∧ idleV1.owner 0 ≠ .prepared) := by
  decide

theorem witness_SendEncodesAndArms :
    (halfV5.cfg.configured = true ∧ halfV5.txState = .idle ∧ 1 < halfV5.cfg.nbuf) ∧ halfV5.owner 1 = .writable ∧
      (∀ b, b < 1 → halfV5.owner b ≠ .writable) ∧ 0 ≤ halfV5.cfg.capPix.toNat ∧
      (Variant.rgb = .rgbw ↔ halfV5.cfg.chCount = 4#3) := by decide

theorem witness_SendRefusesInOrder :
    (faultedV1.cfg.configured = true ∧ faultedV1.txState = .faulted) ∧ (armedV1 0).txState = .arming ∧
      ((preparedV1 0).txState = .idle ∧ ∀ b, b < (preparedV1 0).cfg.nbuf → (preparedV1 0).owner b ≠ .writable) ∧
      (idleV1.txState = .idle ∧ 0 < idleV1.cfg.nbuf ∧ idleV1.owner 0 = .writable) ∧
      idleV1.cfg.sbCap < 4 * idleV1.cfg.bpp + idleV1.cfg.resetSamples ∧
      3 * idleV1.cfg.bpp + idleV1.cfg.resetSamples ≤ idleV1.cfg.sbCap ∧
      ¬(Variant.rgbw = .rgbw ↔ idleV1.cfg.chCount = 4#3) := by decide

/-- In `Idle` with success and with failure, and a PREPARE that succeeds outside `Idle`. -/
theorem witness_SendIsPrepareThenArm :
    (∃ t r, idleV1.cfg.configured = true ∧ exec (.prepare .rgb 3) idleV1 = .next t ∧ t.rsp = some r ∧
      idleV1.txState = .idle ∧ r.status = .ok) ∧
      (∃ t r, exec (.prepare .rgb 4) idleV1 = .next t ∧ t.rsp = some r ∧ r.status ≠ .ok) ∧
      ∃ t r, (halfV5.armBuffer 0).cfg.configured = true ∧ exec (.prepare .rgb 1) (halfV5.armBuffer 0) = .next t ∧
        t.rsp = some r ∧ r.status = .ok ∧ (halfV5.armBuffer 0).txState ≠ .idle :=
  ⟨⟨_, _, rfl, rfl, rfl, rfl, rfl⟩, ⟨_, _, rfl, rfl, by decide⟩, _, _, rfl, rfl, rfl, rfl, by decide⟩

/-! ### STATE, CANCEL, RESET, and the fault scenario -/

theorem witness_StateAnswersTxState :
    faultedV1.cfg.configured = true ∧ (fresh portsV1).cfg.configured = false := by decide

theorem witness_CancelEndsTheLatchWait :
    (latchingV1.cfg.configured = true ∧ latchingV1.txState = .latching ∧ 1 ≠ latchingV1.inflightH.toNat) ∧
      (idleV1.cfg.configured = true ∧ idleV1.txState = .idle) ∧
      ((armedV1 0).cfg.configured = true ∧ (armedV1 0).txState = .arming) ∧
      ((sendingV1 1).cfg.configured = true ∧ (sendingV1 1).txState = .transferring) ∧
      (faultedV1.cfg.configured = true ∧ faultedV1.txState = .faulted) ∧
      (fresh portsV1).cfg.configured = false := by decide

theorem witness_ResetForcesIdle :
    (fresh portsV1).cfg.configured = false ∧ (faultedV1.cfg.configured = true ∧ faultedV1.cfg.double = false) ∧
      (halfV5.cfg.configured = true ∧ 1 < halfV5.cfg.nbuf) := by decide

theorem witness_FaultRefusesSendUntilReset :
    let s := withError (sendingV1 1)
    ∃ f, s.cfg.configured = true ∧ s.errPend = true ∧ 3 ≤ s.cfg.capPix.toNat ∧
      (Variant.rgb = .rgbw ↔ s.cfg.chCount = 4#3) ∧ perform (.eng .fault) s = .next f :=
  ⟨_, rfl, rfl, by decide, by decide, rfl⟩

/-! ### Host ports -/

theorem witness_PixwrWritesOneEntry :
    65535 ≠ (65534#16).toNat ∧ portsV5.toRegs.Legal ∧ portsV5.toRegs.chCount = 3#3 ∧
      BitVec.extractLsb' 0 24 0x00013CA5#32 = BitVec.extractLsb' 0 24 0xEE013CA5#32 :=
  ⟨by decide, legal_v5, by decide⟩

theorem witness_SbrdReadsWithoutEffect :
    (preparedV1 3).cfg.configured = true ∧ 0 < (preparedV1 3).cfg.nbuf ∧ 74 < (preparedV1 3).cfg.sbCap ∧
      Mem.read ((preparedV1 3).buffer 0).data 74 = some 0#16 := by decide

/-! ### The engine's and the agent's steps -/

/-- An armed transfer of no samples (V23). -/
def armedEmpty : State := ((idle portsNoTrailer []).prepareFrame 0 0).armBuffer 0

theorem witness_StartDeliversTheFirstSample :
    (armedEmpty.txState = .arming ∧ armedEmpty.errPend = false ∧ armedEmpty.dmaLen = 0#32) ∧
      ((armedV1 1).txState = .arming ∧ (armedV1 1).errPend = false ∧ (armedV1 1).dmaLen ≠ 0#32 ∧
        (armedV1 1).cfg.configured = true ∧ (armedV1 1).dmaSrc.toNat < (armedV1 1).cfg.nbuf ∧
        0 < (armedV1 1).cfg.sbCap) ∧
      Mem.read ((armedV1 1).buffer (armedV1 1).dmaSrc.toNat).data 0 = some 32#16 := by decide

theorem witness_CompleteForcesTheLineLow :
    completeV1.txState = .transferring ∧ completeV1.tcPend = true ∧ completeV1.errPend = false := by decide

theorem witness_LatchResidualIsZero :
    (completeV1.cfg.Legal ∧ EngStep.enabled .complete completeV1 = true ∧
      ∃ t, perform (.eng .complete) completeV1 = .next t) ∧ (sendingV1 1).Inv :=
  ⟨⟨legal_v1, by decide, _, rfl⟩, inv_sendingV1⟩

theorem witness_LatchTickCountsDown :
    let s := { latchingV1 with latchCnt := 1#32 }
    s.txState = .latching ∧ 0 < s.latchCnt.toNat := by decide

theorem witness_LatchDoneReturnsTheBuffer :
    latchingV1.txState = .latching ∧ latchingV1.latchCnt = 0#32 ∧ latchingV1.errPend = false ∧
      1 ≠ latchingV1.inflightH.toNat := by decide

theorem witness_FaultMarksTheBufferUnusable :
    let s := withError (sendingV1 1)
    (s.cfg.configured = true ∧ s.errPend = true ∧ s.inflightValid = true ∧ 1 ≠ s.inflightH.toNat) ∧
      ((withError idleV1).cfg.configured = true ∧ (withError idleV1).errPend = true ∧
        (withError idleV1).inflightValid = false) := by decide

theorem witness_PendingErrorComesFirst :
    (withError completeV1).errPend = true ∧ completeV1.errPend = false ∧
      EngStep.enabled .complete completeV1 = true ∧
      EngStep.enabled .start (withError (armedV1 0)) = false ∧ EngStep.enabled .fault (armedV1 0) = false ∧
      DmaStep.enabled .beat completeV1 = false ∧ DmaStep.enabled .errRaise (fresh portsV1) = false := by decide

/-- A disabled FAULT does nothing, an enabled one does (44_engine_steps.md R216, 00_scope.md R12). -/
theorem test_fault_needs_an_error :
    field (perform (.eng .fault) (armedV1 0)) State.txState = some .arming ∧
      field (perform (.eng .fault) (withError (armedV1 0))) State.txState = some .faulted := by decide

/-- The pin `fault` is low outside `Faulted` (60_exceptions.md R262). -/
theorem test_fault_pin : faultedV1.faultPin = true ∧ latchingV1.faultPin = false := by decide

theorem witness_BeatDeliversTheNextSample :
    let s := { sendingV1 1 with dmaIdx := 26#32 }
    ((sendingV1 1).Inv ∧ DmaStep.enabled .beat (sendingV1 1) = true) ∧ s.dmaEn = true ∧ s.pwmRun = true ∧
      s.dmaIdx.toNat < s.dmaLen.toNat ∧ s.cfg.configured = true ∧ s.dmaSrc.toNat < s.cfg.nbuf ∧
      s.dmaIdx.toNat < s.cfg.sbCap ∧ Mem.read (s.buffer s.dmaSrc.toNat).data s.dmaIdx.toNat = some 0#16 :=
  ⟨⟨inv_sendingV1, by decide⟩, by decide⟩

theorem witness_SignalsAreLatched :
    let s := { completeV1 with tcPend := false }
    (s.dmaEn = true ∧ s.dmaIdx = s.dmaLen ∧ s.tcPend = false) ∧ idleV1.cfg.configured = true ∧
      idleV1.errPend = false := by decide

/-! ### Whole-machine rules -/

theorem witness_TxStateMovesByTheTable :
    (sendingV1 1).Inv ∧ ∃ t, perform (.command 0x70000000#32) (sendingV1 1) = .next t ∧ t.txState ≠ (sendingV1 1).txState :=
  ⟨inv_sendingV1, _, rfl, by decide⟩

theorem witness_OwnershipMovesByTheTable :
    idleV1.Inv ∧ ∃ t, perform (.command 0x20000003#32) idleV1 = .next t ∧ t.owner 0 ≠ idleV1.owner 0 :=
  ⟨inv_idleV1, _, rfl, by decide⟩

theorem witness_OnlyWritableBuffersAreWritten :
    (∃ t, perform (.command 0x20000002#32) halfV5 = .next t ∧ halfV5.owner 0 ≠ .writable) ∧
      ∃ t, perform (.command 0x20000000#32) idleV1 = .next t ∧ (t.buffer 0).data ≠ (idleV1.buffer 0).data :=
  ⟨⟨_, rfl, by decide⟩, _, rfl, by decide⟩

theorem witness_DoneIsRaisedByLatchDoneOnly :
    (∃ t, perform (.eng .latchDone) latchingV1 = .next t ∧ t.done ≠ latchingV1.done) ∧
      EngStep.enabled .latchDone latchingV1 = true ∧
      ∃ t, exec .reset { idleV1 with done := true } = .next t ∧ t.rsp = some ⟨.ok, 0#3⟩ ∧ t.done ≠ true :=
  ⟨⟨_, rfl, by decide⟩, by decide, _, rfl, rfl, by decide⟩

theorem witness_WaveGrowsByDeliveriesOnly :
    (∃ t, perform (.dma .beat) (sendingV1 1) = .next t ∧ t.wave ≠ (sendingV1 1).wave) ∧
      ∃ t, perform .rst (sendingV1 1) = .next t ∧ t.wave ≠ (sendingV1 1).wave :=
  ⟨⟨_, rfl, by decide⟩, _, rfl, by decide⟩

/-- A run that has ended, with STATE its one host operation; the agents' moves on a quiescent core; a transfer whose last
sample is out and that gets no completion signal, with a CANCEL, a COMPLETE and a FAULT in vain. -/
theorem witness_QuiescentStates :
    idleV1.Inv ∧ (sendingV1 1).Inv ∧
      (∃ t, RunEnded [.command 0x50000000#32] [.eng .start, .command 0x50000000#32, .dma .beat] idleV1 t) ∧
      (idleV1.quiescent = true ∧ ∀ m ∈ [Move.eng .latchDone, .dma .tcRaise], m.isProgress = true) ∧
      ((sendingV1 1).txState = .transferring ∧ (sendingV1 1).tcPend = false ∧ (sendingV1 1).errPend = false ∧
        ∀ m ∈ [Move.command 0x60000000#32, .eng .complete, .eng .fault],
          (∀ d, m ≠ .dma d) ∧ m ≠ .rst ∧ ∀ w, m = .command w → decode w ≠ .ok .reset) := by
  refine ⟨inv_idleV1, inv_sendingV1, ⟨_, rfl, rfl, rfl⟩, by decide, rfl, rfl, rfl, fun m hm => ?_⟩
  simp only [List.mem_cons, List.not_mem_nil, or_false] at hm
  rcases hm with rfl | rfl | rfl
  · refine ⟨by simp, by simp, fun w hw => ?_⟩
    cases hw
    exact fun h => by cases h
  · simp
  · simp

/-- What the host and the pins show of a SEND refused as `Transferring`, then of the BEAT (95_test_vectors.md S6). -/
theorem test_trace :
    (trace [.command 0x40000001#32, .dma .beat] (sendingV1 1)).map (fun o => (o.rsp, o.done, o.fault, o.wave.length)) =
      [(some ⟨.errBusy, 0#3⟩, false, false, 1), (none, false, false, 2)] := by decide

/-- A queued BEAT in `Transferring`. -/
def beatNext : State := { sendingV1 1 with inbox := [.dma .beat] }

theorem inv_beatNext : beatNext.Inv := by
  obtain ⟨h1, h2, h3, h4, h5, h6, h7, h8, h9, h10, h11, h12, h13, h14, h15, h16, h17, h18, h19, h20, h21⟩ := inv_sendingV1
  exact ⟨h1, fun h => absurd h (by decide), h3, h4, h5, h6, h7, h8, h9, h10, h11, h12, h13, h14, h15, h16, h17, h18,
    h19, h20, h21⟩

theorem witness_EveryStepKeepsTheInvariant : beatNext.Inv ∧ ∃ t, step beatNext = .next t := ⟨inv_beatNext, _, rfl⟩

theorem witness_NoStepStops : beatNext.Inv := inv_beatNext

theorem witness_EveryStepKeepsTheDeliveredPrefix :
    beatNext.Inv ∧ beatNext.Delivered ∧ ∃ t, step beatNext = .next t :=
  ⟨inv_beatNext, fun _ => ⟨by decide, by decide⟩, _, rfl⟩

/-! ### The line -/

theorem witness_LineIsLowOutsideTransferring :
    (fresh portsV1).pwmRun = false ∧ latchingV1.pwmDuty = 0#16 ∧ (idleV1.Inv ∧ idleV1.txState ≠ .transferring) ∧
      (∃ t, (sendingV1 1).cfg.configured = true ∧ exec .reset (sendingV1 1) = .next t) ∧
      ∃ t, perform .rst (sendingV1 1) = .next t :=
  ⟨rfl, by decide, ⟨inv_idleV1, by decide⟩, ⟨_, rfl, rfl⟩, _, rfl⟩

/-- The ticks 31 and 32 of the period of sample 0 are the last high and the first low one, and tick 99 the last. -/
theorem witness_EachPeriodIsHighThenLow :
    (sendingV1 1).Inv ∧ (sendingV1 1).pwmRun = true ∧ (sendingV1 1).lineOpen = false ∧
      31 < (sendingV1 1).pwmDuty.toNat ∧ 99 < (sendingV1 1).pwmPeriod.toNat :=
  ⟨inv_sendingV1, by decide⟩

theorem witness_FrameOnTheLineEndsWithTheLatchTime : portsV1.toRegs.Legal := legal_v1

/-- The moves of a transfer of the three trailer samples of V1. -/
def trailerMoves (first : Word) : List Move :=
  [.command first, .eng .start, .dma .beat, .dma .beat, .dma .tcRaise, .eng .complete, .eng .latchDone]

/-- P1: the frame of V1, sent and carried to the end; and fair runs that begin with a SEND and with an ARM. -/
theorem witness_SentFrameReachesTheWire :
    (∃ st, IsRun (fun k => (trailerMoves 0x40000000#32).getD k (.eng .start)) st ∧
      EngFair (fun k => (trailerMoves 0x40000000#32).getD k (.eng .start)) st ∧
      DmaFair (fun k => (trailerMoves 0x40000000#32).getD k (.eng .start)) st ∧ (st 0).Inv ∧
      (st 0).errPend = false ∧ decode 0x40000000#32 = .ok (.send .rgb 0) ∧ (st 1).rsp = some ⟨.ok, 0#3⟩) ∧
    (∃ st, IsRun (fun k => (trailerMoves 0x30000000#32).getD k (.eng .start)) st ∧
      EngFair (fun k => (trailerMoves 0x30000000#32).getD k (.eng .start)) st ∧
      DmaFair (fun k => (trailerMoves 0x30000000#32).getD k (.eng .start)) st ∧ (st 0).Inv ∧
      (st 0).errPend = false ∧ decode 0x30000000#32 = .ok (.arm 0) ∧ (st 1).rsp = some ⟨.ok, 0#3⟩) ∧
    (let s := { idleV1 with inbox := .command 0x40000003#32 :: transferSchedule 75 }
    s.Inv ∧ s.cfg.configured = true ∧ s.txState = .idle ∧ s.errPend = false ∧ 0 < s.cfg.nbuf ∧
      s.owner 0 = .writable ∧ (∀ b, b < 0 → s.owner b ≠ .writable) ∧ 3 ≤ s.cfg.capPix.toNat ∧
      (Variant.rgb = .rgbw ↔ s.cfg.chCount = 4#3) ∧
      s.inbox = .command (encode (.send .rgb 3)) :: (transferSchedule (s.cfg.frameLen 3) ++ [])) := by
  refine ⟨?_, ?_, ?_, by decide, by decide, by decide, by decide, by decide, by decide, by decide, by decide, ?_⟩
  · obtain ⟨st, h0, hr, hE, hD⟩ := exists_fair_run (ms := trailerMoves 0x40000000#32) (s := idleV1) rfl rfl
    have h1 := hr 0
    rw [h0] at h1
    exact ⟨st, hr, hE, hD, h0 ▸ inv_idleV1, h0 ▸ rfl, rfl, Option.some.inj (congrArg (field · State.rsp) h1.symm)⟩
  · obtain ⟨st, h0, hr, hE, hD⟩ := exists_fair_run (ms := trailerMoves 0x30000000#32) (s := preparedV1 0) rfl rfl
    have h1 := hr 0
    rw [h0] at h1
    exact ⟨st, hr, hE, hD, h0 ▸ inv_preparedV1, h0 ▸ rfl, rfl, Option.some.inj (congrArg (field · State.rsp) h1.symm)⟩
  · obtain ⟨h1, h2, h3, h4, h5, h6, h7, h8, h9, h10, h11, h12, h13, h14, h15, h16, h17, h18, h19, h20, h21⟩ := inv_idleV1
    exact ⟨h1, fun h => absurd h (by decide), h3, h4, h5, h6, h7, h8, h9, h10, h11, h12, h13, h14, h15, h16, h17, h18,
      h19, h20, h21⟩
  · rw [List.append_nil]; rfl

end Sys2Proof.Tests
end

section
/-! SUPPORT. Which move a step makes, and the bounds of the derived lengths (00_scope.md R9, R12). -/

namespace Sys2Proof.Machine

/-! ## The next move -/

theorem State.nextMove_cons {s : State} {m : Move} {rest : List Move} (h : s.inbox = m :: rest) : s.nextMove = m := by
  simp [State.nextMove, h]

theorem State.nextMove_nil {s : State} (h : s.inbox = []) : s.nextMove = Config.freeMove s.moves := by
  simp [State.nextMove, h]

theorem State.takeMove_cons {s : State} {m : Move} {rest : List Move} (h : s.inbox = m :: rest) :
    s.takeMove = { s with inbox := rest, moves := s.moves + 1, rsp := none, sbData := none } := by
  simp [State.takeMove, h]

theorem State.takeMove_nil {s : State} (h : s.inbox = []) :
    s.takeMove = { s with moves := s.moves + 1, rsp := none, sbData := none } := by
  simp [State.takeMove, h]

theorem step_cons {s : State} {m : Move} {rest : List Move} (h : s.inbox = m :: rest) :
    step s = perform m { s with inbox := rest, moves := s.moves + 1, rsp := none, sbData := none } := by
  rw [step, State.nextMove_cons h, State.takeMove_cons h]

theorem step_nil {s : State} (h : s.inbox = []) :
    step s = perform (Config.freeMove s.moves) { s with moves := s.moves + 1, rsp := none, sbData := none } := by
  rw [step, State.nextMove_nil h, State.takeMove_nil h]

/-! ## The derived lengths -/

namespace CfgRegs.Legal

variable {c : CfgRegs} (h : c.Legal)
include h

theorem bpp_eq_24_or_32 : c.bpp = 24 ∨ c.bpp = 32 := by
  rw [h.bpp_eq]
  rcases h.chCount_toNat with hch | hch <;> simp [hch]

/-- The product's bound in 00_scope.md R9: both factors are at most their widths allow. -/
theorem capPix_mul_bpp_le : c.capPix.toNat * c.bpp ≤ 2097120 :=
  calc c.capPix.toNat * c.bpp
    _ ≤ 65535 * 32 := Nat.mul_le_mul (Nat.le_of_lt_succ c.capPix.isLt) (by have := h.bpp_eq_24_or_32; omega)
    _ = 2097120 := rfl

theorem sbCap_lt_two_pow : c.sbCap < 2 ^ 32 := lt_of_le_of_lt h.sbCap_le (by decide)

theorem resetTicks_le_trailerTicks : c.resetTicks.toNat ≤ c.trailerTicks := le_ceilDiv_mul _ h.period_pos

theorem trailerTicks_lt : c.trailerTicks < c.resetTicks.toNat + c.bitPeriod.toNat := ceilDiv_mul_lt _ h.period_pos

theorem resetSamples_least {q : Nat} (hq : c.resetTicks.toNat ≤ q * c.bitPeriod.toNat) : c.resetSamples ≤ q :=
  ceilDiv_le h.period_pos hq

end CfgRegs.Legal

/-- Settles O19: the ceiling's laws and the bounds of the widths, one lemma per clause. -/
theorem derivedLengthsFitAndCoverTheLatchTime : Obligations.DerivedLengthsFitAndCoverTheLatchTime :=
  fun _ h => ⟨h.bpp_eq_24_or_32, h.resetSamples_le, h.capPix_mul_bpp_le, h.sbCap_le, h.sbCap_lt_two_pow,
    h.resetTicks_le_trailerTicks, h.trailerTicks_lt, fun _ => h.resetSamples_least⟩

/-- Settles O6: a queue is empty or has a head, and `step` unfolds to one move in each case. -/
theorem stepMakesTheNextMove : Obligations.StepMakesTheNextMove :=
  ⟨fun _ _ _ => step_cons, fun _ => step_nil⟩

end Sys2Proof.Machine
end

section
/-! SUPPORT. What a command and what a move can do, said once as a relation with one constructor per outcome, so that a
statement about every move is a case split over it (00_scope.md R12). -/

namespace Sys2Proof.Machine

/-- The next states a command can leave: an error that is only answered, or the effect of its rule under the rule's conditions. -/
inductive CommandEffect (s : State) : Instr → State → Prop where
  | refused {i : Instr} {st : Status} (hst : st ≠ .ok) : CommandEffect s i (s.respond st 0#3)
  | new (hc : s.cfg.configured = false) (hcap : s.ports.capPix ≠ 0#16) (htiming : s.ports.spec.timingOk = true)
      (hshape : s.ports.spec.shapeOk = true) : CommandEffect s .new (s.configure.respond .ok 0#3)
  | prepare {v : Variant} {n w : Nat} (hc : s.cfg.configured = true) (hw : s.firstWritable = some w)
      (hn : s.cfg.encodeError v n = none) :
      CommandEffect s (.prepare v n) ((s.prepareFrame n w).respond .ok (BitVec.ofNat 3 w))
  | arm {k : Nat} (hc : s.cfg.configured = true) (hx : s.txState = .idle) (hk : k < s.cfg.nbuf)
      (ho : s.owner k = .prepared) : CommandEffect s (.arm k) ((s.armBuffer k).respond .ok 0#3)
  | send {v : Variant} {n w : Nat} (hc : s.cfg.configured = true) (hx : s.txState = .idle)
      (hw : s.firstWritable = some w) (hn : s.cfg.encodeError v n = none) :
      CommandEffect s (.send v n) (((s.prepareFrame n w).armBuffer w).respond .ok 0#3)
  | state (hc : s.cfg.configured = true) : CommandEffect s .state (s.respond .ok s.txState.code)
  | cancelIdle (hc : s.cfg.configured = true) (hx : s.txState = .idle) :
      CommandEffect s .cancel (s.respond .ok 0#3)
  | cancelLatching (hc : s.cfg.configured = true) (hx : s.txState = .latching) :
      CommandEffect s .cancel (s.cancelLatch.respond .ok 0#3)
  | reset (hc : s.cfg.configured = true) : CommandEffect s .reset (s.forceIdle.respond .ok 0#3)

theorem Refused.commandEffect {s t : State} (h : Refused s t) (i : Instr) : CommandEffect s i t := by
  obtain ⟨st, hst, rfl⟩ := h
  exact .refused hst

theorem exec_commandEffect {i : Instr} {s t : State} (h : exec i s = .next t) : CommandEffect s i t := by
  cases i with
  | new =>
    rcases execNew_cases h with hr | ⟨hc, hcap, htiming, hshape, rfl⟩
    · exact hr.commandEffect _
    · exact .new hc hcap htiming hshape
  | prepare v n =>
    rcases execPrepare_cases h with hr | ⟨w, hc, hw, hn, rfl⟩
    · exact hr.commandEffect _
    · exact .prepare hc hw hn
  | arm k =>
    rcases execArm_cases h with hr | ⟨hc, hx, hk, ho, rfl⟩
    · exact hr.commandEffect _
    · exact .arm hc hx hk ho
  | send v n =>
    rcases execSend_cases h with hr | ⟨w, hc, hx, hw, hn, rfl⟩
    · exact hr.commandEffect _
    · exact .send hc hx hw hn
  | state =>
    rcases execState_cases h with hr | ⟨hc, rfl⟩
    · exact hr.commandEffect _
    · exact .state hc
  | cancel =>
    rcases execCancel_cases h with hr | ⟨hc, hx, rfl⟩ | ⟨hc, hx, rfl⟩
    · exact hr.commandEffect _
    · exact .cancelIdle hc hx
    · exact .cancelLatching hc hx
  | reset =>
    rcases execReset_cases h with hr | ⟨hc, rfl⟩
    · exact hr.commandEffect _
    · exact .reset hc

/-- The next states a move can leave. A step of ENG or DMA that is not enabled leaves the state as it is (log 3). -/
inductive MoveEffect (s : State) : Move → State → Prop where
  | command {w : Word} {i : Instr} {t : State} (hd : decode w = .ok i) (h : CommandEffect s i t) :
      MoveEffect s (.command w) t
  | illegal {w : Word} {e : Illegal} (hd : decode w = .error e) :
      MoveEffect s (.command w) (s.respond .errIllegalCmd 0#3)
  | pixwr (i : BitVec 16) (w : Pixel) : MoveEffect s (.pixwr i w) (s.pixWrite i w)
  | sbrd (b : BitVec 1) (i : BitVec 32) : MoveEffect s (.sbrd b i) (s.sbRead b i)
  | drive (p : CfgPorts) : MoveEffect s (.drive p) (s.drivePorts p)
  | lookup (variant : Nat) : MoveEffect s (.lookup variant) (s.lookupTiming variant)
  | engDisabled {e : EngStep} (he : e.enabled s = false) : MoveEffect s (.eng e) s
  | dmaDisabled {d : DmaStep} (hd : d.enabled s = false) : MoveEffect s (.dma d) s
  | startEmpty (he : EngStep.enabled .start s = true) (hlen : s.dmaLen = 0#32) :
      MoveEffect s (.eng .start) { s with dmaEn := true, pwmRun := true, txState := .transferring }
  | start (he : EngStep.enabled .start s = true) (hlen : s.dmaLen ≠ 0#32) :
      MoveEffect s (.eng .start) { s with
        dmaEn := true
        pwmRun := true
        txState := .transferring
        pwmDuty := s.sample s.dmaSrc.toNat 0
        wave := s.wave ++ [s.sample s.dmaSrc.toNat 0]
        dmaIdx := 1#32 }
  | complete (he : EngStep.enabled .complete s = true) :
      MoveEffect s (.eng .complete) { s with
        tcPend := false
        dmaEn := false
        pwmDuty := 0#16
        latchCnt := s.cfg.residualTicks
        txState := .latching }
  | latchTick (he : EngStep.enabled .latchTick s = true) :
      MoveEffect s (.eng .latchTick) { s with latchCnt := s.latchCnt - 1#32 }
  | latchDone (he : EngStep.enabled .latchDone s = true) :
      MoveEffect s (.eng .latchDone) { s.setOwner s.inflightH.toNat .writable with
        inflightValid := false
        pwmRun := false
        done := true
        txState := .idle }
  | fault (he : EngStep.enabled .fault s = true) : MoveEffect s (.eng .fault) s.enterFaulted
  | beat (hd : DmaStep.enabled .beat s = true) :
      MoveEffect s (.dma .beat) { s with
        pwmDuty := s.sample s.dmaSrc.toNat s.dmaIdx.toNat
        wave := s.wave ++ [s.sample s.dmaSrc.toNat s.dmaIdx.toNat]
        dmaIdx := s.dmaIdx + 1#32 }
  | tcRaise (hd : DmaStep.enabled .tcRaise s = true) : MoveEffect s (.dma .tcRaise) { s with tcPend := true }
  | errRaise (hd : DmaStep.enabled .errRaise s = true) : MoveEffect s (.dma .errRaise) { s with errPend := true }
  | rst : MoveEffect s .rst s.hardReset

theorem engStep_moveEffect {e : EngStep} {s t : State} (h : e.run s = .next t) : MoveEffect s (.eng e) t := by
  rcases EngStep.run_cases h with ⟨he, rfl⟩ | ⟨he, heff⟩
  · exact .engDisabled he
  · cases e with
    | start =>
      rcases stepStart_cases heff with ⟨hlen, rfl⟩ | ⟨hlen, _, rfl⟩
      · exact .startEmpty he hlen
      · exact .start he hlen
    | complete => cases heff; exact .complete he
    | latchTick => cases heff; exact .latchTick he
    | latchDone => cases heff; exact .latchDone he
    | fault => cases heff; exact .fault he

theorem dmaStep_moveEffect {d : DmaStep} {s t : State} (h : d.run s = .next t) : MoveEffect s (.dma d) t := by
  rcases DmaStep.run_cases h with ⟨hd, rfl⟩ | ⟨hd, heff⟩
  · exact .dmaDisabled hd
  · cases d with
    | beat =>
      obtain ⟨_, rfl⟩ := State.deliver_cases heff
      exact .beat hd
    | tcRaise => cases heff; exact .tcRaise hd
    | errRaise => cases heff; exact .errRaise hd

theorem perform_moveEffect {m : Move} {s t : State} (h : perform m s = .next t) : MoveEffect s m t := by
  cases m with
  | command w =>
    rcases runCommand_cases h with ⟨i, hd, he⟩ | ⟨e, hd, rfl⟩
    · exact .command hd (exec_commandEffect he)
    · exact .illegal hd
  | pixwr i w => cases h; exact .pixwr i w
  | sbrd b i => cases h; exact .sbrd b i
  | drive p => cases h; exact .drive p
  | lookup variant => cases h; exact .lookup variant
  | eng e => exact engStep_moveEffect h
  | dma d => exact dmaStep_moveEffect h
  | rst => cases h; exact .rst

/-! ## The word of NEW -/

/-- NEW has no operand: its row's mask keeps every bit of the word (30_encoding.md R92, R96). -/
theorem decode_eq_new {w : Word} (h : decode w = .ok .new) : w = encode .new := by
  unfold decode at h
  split at h
  · rename_i hsel
    have hmask : w &&& 0xFFFFFFFF#32 = w := BitVec.and_allOnes
    simp only [OpcodeRow.selects, rowNew, hmask, beq_iff_eq] at hsel
    exact hsel
  · repeat' split at h
    all_goals cases h

/-! ## CFG, `DONE` and `WAVE` -/

/-- Settles O17: of the effects only a successful NEW and hardware reset write CFG. -/
theorem configurationIsImmutable : Obligations.ConfigurationIsImmutable := by
  intro m s t h hne
  cases perform_moveEffect h with
  | rst => exact .inl rfl
  | command hd he =>
    cases he with
    | new hc => exact .inr ⟨congrArg Move.command (decode_eq_new hd), hc, rfl, rfl⟩
    | _ => exact absurd (by simp) hne
  | _ => exact absurd (by simp) hne

/-- What NEW, RESET, ARM and SEND do to `DONE` when they answer `OK` (10_state.md R35). -/
theorem CommandEffect.done_eq_false {i : Instr} {s t : State} (h : CommandEffect s i t)
    (hi : i = .new ∨ i = .reset ∨ (∃ k, i = .arm k) ∨ ∃ v n, i = .send v n) (hok : t.rsp = some ⟨.ok, 0#3⟩) :
    t.done = false := by
  cases h with
  | refused hst => simp_all
  | new | arm | send | reset => simp
  | _ => simp at hi

/-- Settles O50: the effects that write `DONE` are LATCH_DONE, the four commands that clear it, and hardware reset. -/
theorem doneIsRaisedByLatchDoneOnly : Obligations.DoneIsRaisedByLatchDoneOnly := by
  refine ⟨fun m s t h hne => ?_, fun s t he h => ?_, fun i s t hi h hok => ?_, fun _ => rfl⟩
  · cases perform_moveEffect h with
    | latchDone => exact .inl ⟨rfl, rfl⟩
    | rst => exact .inr ⟨rfl, .inl rfl⟩
    | @command w i t hd he =>
      refine .inr ?_
      cases he with
      | new => exact ⟨rfl, .inr ⟨w, _, rfl, hd, rfl, .inl rfl⟩⟩
      | reset => exact ⟨rfl, .inr ⟨w, _, rfl, hd, rfl, .inr (.inl rfl)⟩⟩
      | arm => exact ⟨rfl, .inr ⟨w, _, rfl, hd, rfl, .inr (.inr (.inl ⟨_, rfl⟩))⟩⟩
      | send => exact ⟨rfl, .inr ⟨w, _, rfl, hd, rfl, .inr (.inr (.inr ⟨_, _, rfl⟩))⟩⟩
      | _ => exact absurd (by simp) hne
    | _ => exact absurd (by simp) hne
  · cases perform_moveEffect h with
    | latchDone => rfl
    | engDisabled hdis => rw [he] at hdis; cases hdis
  · exact (exec_commandEffect h).done_eq_false hi hok

/-- Settles O51: the effects that write `WAVE` are the two that deliver a sample, NEW and hardware reset. -/
theorem waveGrowsByDeliveriesOnly : Obligations.WaveGrowsByDeliveriesOnly := by
  intro m s t h hne
  cases perform_moveEffect h with
  | start => exact .inl ⟨.inl rfl, rfl⟩
  | beat => exact .inl ⟨.inr rfl, rfl⟩
  | rst => exact .inr ⟨rfl, .inl rfl⟩
  | command hd he =>
    cases he with
    | new => exact .inr ⟨rfl, .inr (congrArg Move.command (decode_eq_new hd))⟩
    | _ => exact absurd (by simp) hne
  | _ => exact absurd (by simp) hne

end Sys2Proof.Machine
end

section
/-! SUPPORT. The two pending bits are written by commands and read by none (10_state.md R43, 44_engine_steps.md R218). -/

namespace Sys2Proof.Machine

/-- The state with the two pending bits put at given values. -/
def State.withPending (s : State) (tc er : Bool) : State := { s with tcPend := tc, errPend := er }

/-- Two states that agree in all but the pending bits. -/
def SameButPending (t t' : State) : Prop := t' = t.withPending t'.tcPend t'.errPend

/-- Two outcomes whose next states agree in all but the pending bits. -/
def AgreeButPending (o o' : Host.Outcome State Fault Refusal) : Prop :=
  ∀ t t', o = .next t → o' = .next t' → SameButPending t t'

theorem State.sameButPending_withPending (s : State) (tc er : Bool) : SameButPending s (s.withPending tc er) := rfl

theorem SameButPending.refl (s : State) : SameButPending s s := rfl

theorem SameButPending.respond {t t' : State} (h : SameButPending t t') (st : Status) (v : BitVec 3) :
    SameButPending (t.respond st v) (t'.respond st v) := by
  unfold SameButPending at h
  rw [h]; rfl

theorem SameButPending.agree {t t' : State} (h : SameButPending t t') : AgreeButPending (.next t) (.next t') := by
  rintro _ _ ⟨⟩ ⟨⟩
  exact h

theorem agreeButPending_raise (st : Status) (s : State) (tc er : Bool) :
    AgreeButPending (raise st s) (raise st (s.withPending tc er)) :=
  ((s.sameButPending_withPending tc er).respond st 0#3).agree

theorem agreeButPending_ite {c : Prop} [Decidable c] {o₁ o₂ o₁' o₂' : Host.Outcome State Fault Refusal}
    (h₁ : AgreeButPending o₁ o₁') (h₂ : AgreeButPending o₂ o₂') :
    AgreeButPending (if c then o₁ else o₂) (if c then o₁' else o₂') := by
  split
  · exact h₁
  · exact h₂

/-! ## The operations a command makes -/

section
variable (s : State) (tc er : Bool)

@[simp] theorem State.cfg_withPending : (s.withPending tc er).cfg = s.cfg := rfl
@[simp] theorem State.txState_withPending : (s.withPending tc er).txState = s.txState := rfl
@[simp] theorem State.firstWritable_withPending : (s.withPending tc er).firstWritable = s.firstWritable := rfl

theorem State.setBuffer_withPending (b : Nat) (x : SampleBuffer) :
    (s.withPending tc er).setBuffer b x = (s.setBuffer b x).withPending tc er := by
  unfold State.setBuffer; split <;> rfl

theorem State.setOwner_withPending (b : Nat) (o : Owner) :
    (s.withPending tc er).setOwner b o = (s.setOwner b o).withPending tc er := s.setBuffer_withPending tc er b _

theorem State.prepareFrame_withPending (n w : Nat) :
    (s.withPending tc er).prepareFrame n w = (s.prepareFrame n w).withPending tc er := by
  simp only [State.prepareFrame_eq]
  exact s.setBuffer_withPending tc er w _

theorem State.sameButPending_prepareFrame (n w : Nat) :
    SameButPending (s.prepareFrame n w) ((s.withPending tc er).prepareFrame n w) := by
  rw [s.prepareFrame_withPending]; rfl

theorem State.sameButPending_armBuffer (k : Nat) :
    SameButPending (s.armBuffer k) ((s.withPending tc er).armBuffer k) := by
  unfold State.armBuffer
  rw [s.setOwner_withPending]; rfl

/-- The writes of SEND, PREPARE's and then ARM's. -/
theorem State.sameButPending_sendFrame (n w : Nat) :
    SameButPending ((s.prepareFrame n w).armBuffer w) (((s.withPending tc er).prepareFrame n w).armBuffer w) := by
  rw [s.prepareFrame_withPending]
  exact (s.prepareFrame n w).sameButPending_armBuffer tc er w

theorem State.sameButPending_cancelLatch : SameButPending s.cancelLatch (s.withPending tc er).cancelLatch := by
  unfold State.cancelLatch
  rw [s.setOwner_withPending]; rfl

/-! ## The commands -/

theorem execNew_agree : AgreeButPending (execNew s) (execNew (s.withPending tc er)) :=
  agreeButPending_ite (agreeButPending_raise _ s tc er) <|
  agreeButPending_ite (agreeButPending_raise _ s tc er) <|
  agreeButPending_ite (agreeButPending_raise _ s tc er) <|
  agreeButPending_ite (agreeButPending_raise _ s tc er) (SameButPending.refl _).agree

theorem execPrepare_agree (v : Variant) (n : Nat) :
    AgreeButPending (execPrepare v n s) (execPrepare v n (s.withPending tc er)) := by
  refine agreeButPending_ite (agreeButPending_raise _ s tc er) ?_
  rw [s.firstWritable_withPending]
  cases s.firstWritable with
  | none => exact agreeButPending_raise _ s tc er
  | some w =>
    rw [s.cfg_withPending]
    cases s.cfg.encodeError v n with
    | some st => exact agreeButPending_raise st s tc er
    | none => exact ((s.sameButPending_prepareFrame tc er n w).respond _ _).agree

theorem execArm_agree (k : Nat) : AgreeButPending (execArm k s) (execArm k (s.withPending tc er)) :=
  agreeButPending_ite (agreeButPending_raise _ s tc er) <|
  agreeButPending_ite (agreeButPending_raise _ s tc er) <|
  agreeButPending_ite (agreeButPending_raise _ s tc er) <|
  agreeButPending_ite (agreeButPending_raise _ s tc er) ((s.sameButPending_armBuffer tc er k).respond _ _).agree

theorem execSend_agree (v : Variant) (n : Nat) :
    AgreeButPending (execSend v n s) (execSend v n (s.withPending tc er)) := by
  refine agreeButPending_ite (agreeButPending_raise _ s tc er) <|
    agreeButPending_ite (agreeButPending_raise _ s tc er) <|
    agreeButPending_ite (agreeButPending_raise _ s tc er) ?_
  rw [s.firstWritable_withPending]
  cases s.firstWritable with
  | none => exact agreeButPending_raise _ s tc er
  | some w =>
    rw [s.cfg_withPending]
    cases s.cfg.encodeError v n with
    | some st => exact agreeButPending_raise st s tc er
    | none => exact ((s.sameButPending_sendFrame tc er n w).respond _ _).agree

theorem execState_agree : AgreeButPending (execState s) (execState (s.withPending tc er)) :=
  agreeButPending_ite (agreeButPending_raise _ s tc er)
    ((s.sameButPending_withPending tc er).respond _ _).agree

theorem execCancel_agree : AgreeButPending (execCancel s) (execCancel (s.withPending tc er)) := by
  refine agreeButPending_ite (agreeButPending_raise _ s tc er) ?_
  rw [s.txState_withPending]
  cases s.txState with
  | idle => exact ((s.sameButPending_withPending tc er).respond _ _).agree
  | latching => exact ((s.sameButPending_cancelLatch tc er).respond _ _).agree
  | arming | transferring | faulted => exact agreeButPending_raise _ s tc er

theorem execReset_agree : AgreeButPending (execReset s) (execReset (s.withPending tc er)) :=
  agreeButPending_ite (agreeButPending_raise _ s tc er) (SameButPending.refl _).agree

theorem exec_agree (i : Instr) : AgreeButPending (exec i s) (exec i (s.withPending tc er)) := by
  cases i with
  | new => exact execNew_agree s tc er
  | prepare v n => exact execPrepare_agree s tc er v n
  | arm k => exact execArm_agree s tc er k
  | send v n => exact execSend_agree s tc er v n
  | state => exact execState_agree s tc er
  | cancel => exact execCancel_agree s tc er
  | reset => exact execReset_agree s tc er

end

/-- Settles O11: from two states that agree in all but the pending bits a command takes the same branch and makes the same writes. -/
theorem commandsDoNotReadPendingBits : Obligations.CommandsDoNotReadPendingBits :=
  fun i s t t' tc er h h' => exec_agree s tc er i t t' h h'

end Sys2Proof.Machine
end

section
/-! SUPPORT. A frame's samples one by one, and what Encode leaves in a buffer (41_encoder.md R147, R150, R154). -/

namespace Sys2Proof.Machine

namespace CfgRegs.Legal

variable {c : CfgRegs} (h : c.Legal)
include h

theorem frame_length (pixels : List Pixel) : (c.frame pixels).length = c.frameLen pixels.length := by
  simp [CfgRegs.frame, CfgRegs.trailer, CfgRegs.frameLen, h.bits_length]

/-- A bit sample is one of the two high times (41_encoder.md R154). -/
theorem frame_getElem?_bit (pixels : List Pixel) {i : Nat} (hi : i < pixels.length * c.bpp) :
    (c.frame pixels)[i]? = some c.t0High ∨ (c.frame pixels)[i]? = some c.t1High := by
  have hlt : i < (pixels.flatMap c.pixelSamples).length := by rwa [h.bits_length]
  rw [CfgRegs.frame, List.getElem?_append_left hlt, List.getElem?_eq_getElem hlt]
  obtain ⟨px, _, hmem⟩ := List.mem_flatMap.1 (List.getElem_mem hlt)
  simpa using CfgRegs.mem_pixelSamples hmem

/-- A trailer sample is 0 (41_encoder.md R146). -/
theorem frame_getElem?_trailer (pixels : List Pixel) {i : Nat} (hlo : pixels.length * c.bpp ≤ i)
    (hhi : i < c.frameLen pixels.length) : (c.frame pixels)[i]? = some 0#16 := by
  unfold CfgRegs.frameLen at hhi
  rw [CfgRegs.frame, List.getElem?_append_right (by rwa [h.bits_length]), h.bits_length, CfgRegs.trailer,
    List.getElem?_replicate, if_pos (by omega)]

/-- The trailer alone lasts the latch time, so COMPLETE loads no countdown (44_engine_steps.md R213). -/
theorem residualTicks_eq_zero : c.residualTicks = 0#32 := by
  rw [CfgRegs.residualTicks, Nat.sub_eq_zero_of_le h.resetTicks_le_trailerTicks]

end CfgRegs.Legal

/-! ## What a buffer holds -/

/-- A buffer as the invariant has it: in canonical form, nothing at or past `SB_CAP`, and empty or a frame. -/
structure SampleBuffer.Ok (c : CfgRegs) (x : SampleBuffer) : Prop where
  wf : Mem.Wf x.data
  capacity : ∀ e ∈ x.data, e.1 < c.sbCap
  frame : (x.len = 0#32 ∧ x.owner = .writable) ∨ x.HoldsFrame c

theorem SampleBuffer.ok_reset (c : CfgRegs) : SampleBuffer.reset.Ok c where
  wf := List.Pairwise.nil
  capacity := by simp [SampleBuffer.reset]
  frame := .inl ⟨rfl, rfl⟩

theorem SampleBuffer.Ok.holdsFrame {c : CfgRegs} {x : SampleBuffer} (h : x.Ok c) (ho : x.owner ≠ .writable) :
    x.HoldsFrame c := h.frame.resolve_left fun hw => ho hw.2

/-- Whoever owns a frame, it is the same frame. -/
theorem SampleBuffer.Ok.setOwner {c : CfgRegs} {x : SampleBuffer} (h : x.Ok c) {o : Owner}
    (ho : o = .writable ∨ x.HoldsFrame c) : SampleBuffer.Ok c { x with owner := o } where
  wf := h.wf
  capacity := h.capacity
  frame := by
    rcases ho with rfl | hf
    · exact h.frame.imp (fun hw => ⟨hw.1, rfl⟩) id
    · exact .inr hf

/-- Every sample of a frame is a duty value (41_encoder.md R145). -/
theorem SampleBuffer.HoldsFrame.read_isDuty {c : CfgRegs} {x : SampleBuffer} (h : x.HoldsFrame c) {i : Nat}
    (hi : i < x.len.toNat) : ∃ v, Mem.read x.data i = some v ∧ c.IsDuty v := by
  obtain ⟨n, _, hlen, hbits, htrailer⟩ := h
  by_cases hb : i < n * c.bpp
  · rcases hbits i hb with hr | hr
    · exact ⟨_, hr, .inr (.inl rfl)⟩
    · exact ⟨_, hr, .inr (.inr rfl)⟩
  · exact ⟨_, htrailer i (by omega) (by omega), .inl rfl⟩

/-- What PREPARE and SEND leave in a buffer is a frame, over whatever it held before. -/
theorem SampleBuffer.Ok.overlay {c : CfgRegs} (hc : c.Legal) {x : SampleBuffer} (h : x.Ok c) (o : Owner)
    (pixels : List Pixel) (hn : pixels.length ≤ c.capPix.toNat) :
    SampleBuffer.Ok c ⟨o, BitVec.ofNat 32 (c.frameLen pixels.length), Mem.overlay (c.frame pixels) x.data⟩ where
  wf := Mem.wf_overlay _ h.wf
  capacity := by
    intro e he
    rcases Mem.mem_overlay he with hlt | hmem
    · have := c.frameLen_le_sbCap hn
      rw [hc.frame_length] at hlt
      omega
    · exact h.capacity e hmem
  frame := by
    have hread : ∀ i, i < c.frameLen pixels.length →
        Mem.read (Mem.overlay (c.frame pixels) x.data) i = (c.frame pixels)[i]? := fun i hi => by
      rw [Mem.read_overlay, hc.frame_length, if_pos hi]
    refine .inr ⟨pixels.length, hn, hc.frameLen_toNat hn, fun i hi => ?_, fun i hlo hhi => ?_⟩
    · have hlt : i < c.frameLen pixels.length := by unfold CfgRegs.frameLen; omega
      simpa only [hread i hlt] using hc.frame_getElem?_bit pixels hi
    · rw [hread i hhi]
      exact hc.frame_getElem?_trailer pixels hlo hhi

end Sys2Proof.Machine
end

section
/-! SUPPORT. The invariant in two layers, the memories and the registers, and the rules by which the operations keep
each (10_state.md R29, R31, R46). -/

namespace Sys2Proof.Machine

/-! ## The memories -/

/-- The part of the invariant that speaks of `PIX` and the sample buffers. -/
structure State.MemoriesOk (s : State) : Prop where
  pixWf : Mem.Wf s.pix
  pixDepth : ∀ e ∈ s.pix, e.1 < Config.pixDepth
  single : s.cfg.double = false → s.sb1 = SampleBuffer.reset
  buffers : ∀ b, b < s.cfg.nbuf → (s.buffer b).Ok s.cfg

theorem CfgRegs.nbuf_of_single {c : CfgRegs} (h : c.double = false) : c.nbuf = 1 := by simp [CfgRegs.nbuf, h]

theorem CfgRegs.nbuf_of_double {c : CfgRegs} (h : c.double = true) : c.nbuf = 2 := by simp [CfgRegs.nbuf, h]

/-- A buffer that does not exist is at reset, so both buffers are in order. -/
theorem State.MemoriesOk.buffer_ok {s : State} (h : s.MemoriesOk) {b : Nat} (hb : b < 2) : (s.buffer b).Ok s.cfg := by
  cases hd : s.cfg.double with
  | true => exact h.buffers b (by rwa [CfgRegs.nbuf_of_double hd])
  | false =>
    by_cases hb0 : b = 0
    · exact h.buffers b (by rw [CfgRegs.nbuf_of_single hd]; omega)
    · rw [s.buffer_of_pos hb0, h.single hd]
      exact SampleBuffer.ok_reset _

theorem State.Inv.memoriesOk {s : State} (h : s.Inv) : s.MemoriesOk := by
  obtain ⟨hpix, hdepth, hwf0, hwf1⟩ := h.memory
  refine ⟨hpix, hdepth, h.single, fun b hb => ⟨?_, h.capacity b (Nat.lt_of_lt_of_le hb s.cfg.nbuf_le), h.frames b hb⟩⟩
  unfold State.buffer
  split
  · exact hwf0
  · exact hwf1

theorem State.MemoriesOk.memory {s : State} (h : s.MemoriesOk) : s.MemoryWf :=
  ⟨h.pixWf, h.pixDepth, (h.buffer_ok (b := 0) (by decide)).wf, (h.buffer_ok (b := 1) (by decide)).wf⟩

theorem State.MemoriesOk.setBuffer {s : State} (h : s.MemoriesOk) {b : Nat} (hb : b < s.cfg.nbuf) {x : SampleBuffer}
    (hx : x.Ok s.cfg) : (s.setBuffer b x).MemoriesOk where
  pixWf := by simpa using h.pixWf
  pixDepth := by simpa using h.pixDepth
  single := by
    intro hd
    rw [State.setBuffer_cfg] at hd
    have hb0 : b = 0 := by rw [CfgRegs.nbuf_of_single hd] at hb; omega
    subst hb0
    exact h.single hd
  buffers := by
    intro k hk
    rw [State.setBuffer_cfg] at hk ⊢
    rw [State.buffer_setBuffer s x (Nat.lt_of_lt_of_le hb s.cfg.nbuf_le) (Nat.lt_of_lt_of_le hk s.cfg.nbuf_le)]
    split
    · exact hx
    · exact h.buffers k hk

theorem State.MemoriesOk.setOwner {s : State} (h : s.MemoriesOk) {b : Nat} (hb : b < s.cfg.nbuf) {o : Owner}
    (ho : o = .writable ∨ (s.buffer b).HoldsFrame s.cfg) : (s.setOwner b o).MemoriesOk :=
  h.setBuffer hb ((h.buffers b hb).setOwner ho)

/-! ## Owners -/

theorem State.owner_setBuffer (s : State) {b k : Nat} (x : SampleBuffer) (hb : b < 2) (hk : k < 2) :
    (s.setBuffer b x).owner k = if k = b then x.owner else s.owner k := by
  unfold State.owner
  rw [State.buffer_setBuffer s x hb hk]
  split <;> rfl

theorem State.owner_setOwner (s : State) {b k : Nat} (o : Owner) (hb : b < 2) (hk : k < 2) :
    (s.setOwner b o).owner k = if k = b then o else s.owner k := s.owner_setBuffer _ hb hk

/-- No buffer is in flight, and one is unusable only in `Faulted`. -/
def State.OwnersAtRest (s : State) : Prop :=
  ∀ b, b < 2 → s.owner b ≠ .inflight ∧ (s.owner b = .unusable → s.txState = .faulted)

/-! ## A core at rest -/

/-- The engine is in `Idle` or `Faulted`, and channel, timer and line are off. -/
structure State.AtRest (s : State) : Prop where
  tx : s.txState = .idle ∨ s.txState = .faulted
  noBuffer : s.inflightValid = false
  channelOff : s.dmaEn = false
  timerOff : s.pwmRun = false
  lineLow : s.pwmDuty = 0#16
  noCompletion : s.tcPend = false
  noCountdown : s.latchCnt = 0#32
  owners : s.OwnersAtRest

/-- Where the engine owns no buffer the ties between its registers all hold. -/
theorem State.AtRest.inv {s : State} (h : s.AtRest) (hm : s.MemoriesOk) (hu : s.cfg.configured = false → s.AtReset)
    (hl : s.cfg.configured = true → s.cfg.Legal) (hp : s.pwmPeriod = s.cfg.bitPeriod)
    (hi : s.dmaIdx.toNat ≤ s.dmaLen.toNat) (hw : ∀ v ∈ s.wave, s.cfg.IsDuty v) : s.Inv where
  memory := hm.memory
  unconfigured := hu
  legal := hl
  period := hp
  single := hm.single
  capacity b hb := (hm.buffer_ok hb).capacity
  frames b hb := (hm.buffers b hb).frame
  owns := by
    rcases h.tx with hx | hx <;> rw [hx] <;> exact h.noBuffer
  inflight hv := by simp [h.noBuffer] at hv
  oneInflight b hb ho := absurd ho (h.owners b hb).1
  unusable b hb := (h.owners b hb).2
  quiet _ := ⟨h.channelOff, h.timerOff⟩
  arming hx := by simpa [hx] using h.tx
  transferring hx := by simpa [hx] using h.tx
  latching hx := by simpa [hx] using h.tx
  indexBound := hi
  completion ht := by simp [h.noCompletion] at ht
  countdown := h.noCountdown
  doneQuiet _ := h.tx
  duty := .inl h.lineLow
  waveValues := hw

/-- Settles O53: after hardware reset the core is at rest, and its memories are empty. -/
theorem resetMeetsTheInvariant : Obligations.ResetMeetsTheInvariant := by
  have hbuf : ∀ b, State.reset.buffer b = SampleBuffer.reset := fun b => by unfold State.buffer; split <;> rfl
  have hm : State.reset.MemoriesOk :=
    ⟨.nil, by simp [State.reset], fun _ => rfl, fun b _ => hbuf b ▸ SampleBuffer.ok_reset _⟩
  have ho : State.reset.OwnersAtRest := fun b _ => by
    unfold State.owner
    rw [hbuf]
    exact ⟨by decide, fun h => by cases h⟩
  have hr : State.reset.AtRest := ⟨.inl rfl, rfl, rfl, rfl, rfl, rfl, rfl, ho⟩
  refine ⟨hr.inv hm (fun _ => rfl) (fun h => by cases h) rfl (Nat.le_refl _) (by simp [State.reset]), ?_⟩
  rintro (h | h) <;> cases h

end Sys2Proof.Machine
end

section
/-! SUPPORT. Each effect of a command or of a step keeps the invariant (10_state.md R29). -/

namespace Sys2Proof.Machine

variable {s : State}

/-! ## Consequences of the invariant -/

/-- An unconfigured core is in `Idle` with the channel off, so where either has moved CFG is legal. -/
theorem State.Inv.configured_of_txState (h : s.Inv) (hx : s.txState ≠ .idle) : s.cfg.configured = true := by
  by_contra hc
  rw [h.unconfigured (by simpa using hc)] at hx
  exact hx rfl

theorem State.Inv.transferring_of_dmaEn (h : s.Inv) (hd : s.dmaEn = true) : s.txState = .transferring := by
  cases hx : s.txState with
  | idle => simp [(h.quiet (.inl hx)).1] at hd
  | faulted => simp [(h.quiet (.inr hx)).1] at hd
  | arming => simp [(h.arming hx).1] at hd
  | latching => simp [(h.latching hx).1] at hd
  | transferring => rfl

/-- The buffer in flight holds a frame, the one the channel was given. -/
theorem State.Inv.inflight_holdsFrame (h : s.Inv) (hv : s.inflightValid = true) :
    (s.buffer s.inflightH.toNat).HoldsFrame s.cfg := by
  obtain ⟨hlt, ho, _, _⟩ := h.inflight hv
  refine (h.memoriesOk.buffers _ hlt).holdsFrame ?_
  rw [show (s.buffer s.inflightH.toNat).owner = .inflight from ho]
  decide

/-- What the channel fetches is a duty value (41_encoder.md R145). -/
theorem State.Inv.sample_isDuty (h : s.Inv) (hv : s.inflightValid = true) {i : Nat} (hi : i < s.dmaLen.toNat) :
    s.cfg.IsDuty (s.sample s.dmaSrc.toNat i) := by
  obtain ⟨_, _, hsrc, hlen⟩ := h.inflight hv
  obtain ⟨v, hr, hduty⟩ := (h.inflight_holdsFrame hv).read_isDuty (i := i) (by rwa [hlen] at hi)
  rwa [hsrc, State.sample_eq_of_read hr]

theorem State.Inv.isDuty_of_mem_append (h : s.Inv) {v : Sample} (hv : s.cfg.IsDuty v) :
    ∀ u ∈ s.wave ++ [v], s.cfg.IsDuty u := by
  intro u hu
  rcases List.mem_append.1 hu with hu | hu
  · exact h.waveValues u hu
  · rwa [List.mem_singleton.1 hu]

theorem State.Inv.tcPend_eq_false (h : s.Inv) (hx : s.txState ≠ .transferring) : s.tcPend = false := by
  by_contra ht
  exact hx (h.completion (by simpa using ht)).1

/-! ## The interface fields and `PIX` -/

/-- The invariant does not speak of the ports, the outputs, the queue and the count of moves. -/
theorem State.Inv.interface (h : s.Inv) (p : CfgPorts) (r : Option Response) (d : Option Sample) (q : List Move)
    (k : Nat) : State.Inv { s with ports := p, rsp := r, sbData := d, inbox := q, moves := k } := by
  refine { h with unconfigured := fun hc => ?_ }
  exact congrArg (fun u : State => { u with ports := p, rsp := r, sbData := d, inbox := q, moves := k })
    (h.unconfigured hc)

theorem State.Inv.respond (h : s.Inv) (st : Status) (v : BitVec 3) : (s.respond st v).Inv :=
  h.interface s.ports (some ⟨st, v⟩) s.sbData s.inbox s.moves

theorem State.Inv.takeMove (h : s.Inv) : s.takeMove.Inv :=
  h.interface s.ports none none s.inbox.tail (s.moves + 1)

theorem State.Inv.sbRead (h : s.Inv) (b : BitVec 1) (i : BitVec 32) : (s.sbRead b i).Inv :=
  h.interface s.ports s.rsp (some (s.debugSample b.toNat i.toNat)) s.inbox s.moves

theorem State.Inv.drivePorts (h : s.Inv) (p : CfgPorts) : (s.drivePorts p).Inv :=
  h.interface p s.rsp s.sbData s.inbox s.moves

theorem State.Inv.lookupTiming (h : s.Inv) (variant : Nat) : (s.lookupTiming variant).Inv :=
  h.interface { s.ports with spec := Config.timingTable variant } s.rsp s.sbData s.inbox s.moves

theorem State.Inv.pixWrite (h : s.Inv) (i : BitVec 16) (w : Pixel) : (s.pixWrite i w).Inv := by
  obtain ⟨hpix, hdepth, hwf0, hwf1⟩ := h.memory
  refine { h with memory := ⟨Mem.wf_write hpix _ _, fun e he => ?_, hwf0, hwf1⟩, unconfigured := fun hc => ?_ }
  · rcases Mem.mem_write he with rfl | hmem
    · exact i.isLt
    · exact hdepth e hmem
  · exact congrArg (fun u : State => { u with pix := Mem.write s.pix i.toNat w }) (h.unconfigured hc)

theorem State.inv_hardReset (s : State) : s.hardReset.Inv :=
  resetMeetsTheInvariant.1.interface s.ports none none s.inbox s.moves

/-! ## NEW -/

theorem CfgPorts.order_toRegs (p : CfgPorts) (h : p.spec.chCount = 3#3 ∨ p.spec.chCount = 4#3) :
    p.toRegs.order = (List.range p.spec.chCount.toNat).map p.spec.channelAt := by
  rcases h with h | h <;> simp [CfgRegs.order, CfgPorts.toRegs, h, List.range_succ]

/-- The checks of NEW are the legality of what it writes (40_config.md R122, R123, R126). -/
theorem CfgPorts.legal_toRegs {p : CfgPorts} (hcap : p.capPix ≠ 0#16) (htiming : p.spec.timingOk = true)
    (hshape : p.spec.shapeOk = true) : p.toRegs.Legal := by
  obtain ⟨ht0, ht01, ht1⟩ := (timingOk_iff _).1 htiming
  obtain ⟨hbits, hch, hnodup, hwhite⟩ := (shapeOk_iff _).1 hshape
  rw [← p.order_toRegs hch] at hnodup hwhite
  refine ⟨ht0, ht01, ht1, hch, hnodup, hwhite, hbits, Nat.pos_of_ne_zero fun h0 => hcap ?_⟩
  exact BitVec.eq_of_toNat_eq h0

theorem State.Inv.configure (h : s.Inv) (hc : s.cfg.configured = false) (hl : s.ports.toRegs.Legal) :
    s.configure.Inv := by
  have h0 : s.sb0 = SampleBuffer.reset := congrArg State.sb0 (h.unconfigured hc)
  have h1 : s.sb1 = SampleBuffer.reset := congrArg State.sb1 (h.unconfigured hc)
  have hbuf : ∀ b, s.configure.buffer b = SampleBuffer.reset := by
    intro b
    unfold State.buffer
    split
    · rw [State.configure_sb0, h0]; rfl
    · rw [State.configure_sb1, h1]; split <;> rfl
  have hm : s.configure.MemoriesOk :=
    ⟨h.memoriesOk.pixWf, h.memoriesOk.pixDepth, fun _ => hbuf 1, fun b _ => hbuf b ▸ SampleBuffer.ok_reset _⟩
  have ho : s.configure.OwnersAtRest := fun b _ => by
    unfold State.owner
    rw [hbuf]
    exact ⟨by decide, fun h => by cases h⟩
  have hr : s.configure.AtRest := ⟨.inl rfl, rfl, rfl, rfl, rfl, rfl, rfl, ho⟩
  exact hr.inv hm (fun h => by cases h) (fun _ => hl) rfl (Nat.le_refl _) (by simp)

/-! ## PREPARE and ARM -/

/-- A write of a buffer is an update of the two buffer fields, so `{ h with … }` carries what the others say. -/
theorem State.setBuffer_eq_with (s : State) (b : Nat) (x : SampleBuffer) :
    ∃ x0 x1, s.setBuffer b x = { s with sb0 := x0, sb1 := x1 } := by
  unfold State.setBuffer
  split
  · exact ⟨x, s.sb1, rfl⟩
  · exact ⟨s.sb0, x, rfl⟩

/-- A writable buffer can be filled and marked `PREPARED` whatever the engine does: it is not the one in flight. -/
theorem State.Inv.setBuffer_prepared (h : s.Inv) (hc : s.cfg.configured = true) {w : Nat} (hw : w < s.cfg.nbuf)
    (ho : s.owner w = .writable) {x : SampleBuffer} (hx : x.Ok s.cfg) (hxo : x.owner = .prepared) :
    (s.setBuffer w x).Inv := by
  have hw2 : w < 2 := Nat.lt_of_lt_of_le hw s.cfg.nbuf_le
  have hm := h.memoriesOk.setBuffer hw hx
  have hown : ∀ b, b < 2 → (s.setBuffer w x).owner b = if b = w then .prepared else s.owner b :=
    fun b hb => hxo ▸ s.owner_setBuffer x hw2 hb
  have hbuf : s.inflightValid = true →
      (s.setBuffer w x).buffer s.inflightH.toNat = s.buffer s.inflightH.toNat := fun hv => by
    obtain ⟨_, hfl, _, _⟩ := h.inflight hv
    refine s.buffer_setBuffer_other x hw2 s.inflightH.isLt fun heq => ?_
    rw [heq, ho] at hfl
    cases hfl
  obtain ⟨x0, x1, he⟩ := s.setBuffer_eq_with w x
  rw [he] at hm hown hbuf ⊢
  refine { h with
    memory := hm.memory
    unconfigured := fun hu => absurd (hu.symm.trans hc) Bool.false_ne_true
    single := hm.single
    capacity := fun b hb => (hm.buffer_ok hb).capacity
    frames := fun b hb => (hm.buffers b hb).frame
    inflight := fun hv => ?_
    oneInflight := fun b hb hfl => ?_
    unusable := fun b hb hun => ?_ }
  · obtain ⟨hlt, hfl, hsrc, hlen⟩ := h.inflight hv
    exact ⟨hlt, (congrArg SampleBuffer.owner (hbuf hv)).trans hfl, hsrc,
      hlen.trans (congrArg SampleBuffer.len (hbuf hv)).symm⟩
  · rw [hown b hb] at hfl
    split at hfl
    · cases hfl
    · exact h.oneInflight b hb hfl
  · rw [hown b hb] at hun
    split at hun
    · cases hun
    · exact h.unusable b hb hun

/-- On a legal CFG Encode's checks bound the count by `CAP_PIX` (41_encoder.md R141), so the buffer then holds a frame. -/
theorem State.Inv.prepareFrame (h : s.Inv) (hc : s.cfg.configured = true) {v : Variant} {n w : Nat}
    (hw : s.firstWritable = some w) (hn : s.cfg.encodeError v n = none) : (s.prepareFrame n w).Inv := by
  obtain ⟨hlt, ho, _⟩ := State.firstWritable_eq_some.1 hw
  have hl := h.legal hc
  have hle : (s.pixelBuffer n).length ≤ s.cfg.capPix.toNat := by
    rw [State.pixelBuffer_length]
    exact (hl.frameLen_le_iff n).1 (encodeError_eq_none.1 hn).1
  have hx := SampleBuffer.Ok.overlay hl (h.memoriesOk.buffers w hlt) .prepared (s.pixelBuffer n) hle
  rw [State.pixelBuffer_length] at hx
  rw [State.prepareFrame_eq]
  exact h.setBuffer_prepared hc hlt ho hx rfl

theorem State.Inv.armBuffer (h : s.Inv) (hc : s.cfg.configured = true) (hx : s.txState = .idle) {k : Nat}
    (hk : k < s.cfg.nbuf) (ho : s.owner k = .prepared) : (s.armBuffer k).Inv := by
  have hk2 : k < 2 := Nat.lt_of_lt_of_le hk s.cfg.nbuf_le
  have hkn : (BitVec.ofNat 1 k).toNat = k := by simp; omega
  have hframe : (s.buffer k).HoldsFrame s.cfg :=
    (h.memoriesOk.buffers k hk).holdsFrame (by rw [show (s.buffer k).owner = .prepared from ho]; decide)
  have hm : (s.armBuffer k).MemoriesOk := { h.memoriesOk.setOwner hk (.inr hframe) with }
  have hown : ∀ b, b < 2 → (s.armBuffer k).owner b = if b = k then .inflight else s.owner b :=
    fun b hb => s.owner_setOwner .inflight hk2 hb
  have hnofl : s.inflightValid = false := by rw [h.owns, hx]; rfl
  obtain ⟨hen, hrun⟩ := h.quiet (.inl hx)
  exact {
    memory := hm.memory
    unconfigured := fun hu => by simp [hc] at hu
    legal := by simpa using h.legal
    period := by simpa using h.period
    single := hm.single
    capacity := fun b hb => (hm.buffer_ok hb).capacity
    frames := fun b hb => (hm.buffers b hb).frame
    owns := rfl
    inflight := fun _ => by
      rw [State.armBuffer_inflightH, hkn, hown k hk2, if_pos rfl]
      exact ⟨by simpa using hk, rfl, rfl, by simp [State.sbLen]⟩
    oneInflight := fun b hb hfl => by
      rw [hown b hb] at hfl
      split at hfl
      · exact ⟨rfl, by rw [State.armBuffer_inflightH, hkn]; assumption⟩
      · simp [(h.oneInflight b hb hfl).1] at hnofl
    unusable := fun b hb hun => by
      rw [hown b hb] at hun
      split at hun
      · cases hun
      · exact absurd (h.unusable b hb hun) (by simp [hx])
    quiet := fun hq => by simp at hq
    arming := fun _ => by simp [hen, hrun]
    transferring := fun ht => by simp at ht
    latching := fun hl => by simp at hl
    indexBound := by simp
    completion := fun ht => by simp at ht
    countdown := by simpa using h.countdown
    doneQuiet := fun hd => by simp at hd
    duty := by simpa using h.duty
    waveValues := by simpa using h.waveValues }

/-! ## The return to rest -/

/-- A core that comes to rest and keeps CFG, the period, the channel's index and length and `WAVE` keeps the invariant. -/
theorem State.AtRest.inv_of_inv {t : State} (ht : t.AtRest) (hm : t.MemoriesOk) (h : s.Inv)
    (hc : s.cfg.configured = true)
    (hkeep : t.cfg = s.cfg ∧ t.pwmPeriod = s.pwmPeriod ∧ t.dmaIdx = s.dmaIdx ∧ t.dmaLen = s.dmaLen ∧ t.wave = s.wave) :
    t.Inv := by
  obtain ⟨hcfg, hperiod, hidx, hlen, hwave⟩ := hkeep
  refine ht.inv hm (fun hu => ?_) (fun _ => ?_) ?_ ?_ ?_
  · rw [hcfg, hc] at hu
    cases hu
  · exact hcfg ▸ h.legal hc
  · rw [hperiod, hcfg, h.period]
  · rw [hidx, hlen]
    exact h.indexBound
  · rw [hwave, hcfg]
    exact h.waveValues

theorem State.Inv.memoriesOk_setOwner (h : s.Inv) (hv : s.inflightValid = true) (o : Owner) :
    (s.setOwner s.inflightH.toNat o).MemoriesOk := by
  obtain ⟨hlt, _⟩ := h.inflight hv
  exact h.memoriesOk.setOwner hlt (.inr (h.inflight_holdsFrame hv))

/-- The buffer in flight leaves it, and no other is there. -/
theorem State.Inv.owner_setOwner_ne_inflight (h : s.Inv) {o : Owner} (ho : o ≠ .inflight) {b : Nat} (hb : b < 2) :
    (s.setOwner s.inflightH.toNat o).owner b ≠ .inflight := by
  rw [s.owner_setOwner o s.inflightH.isLt hb]
  split
  · exact ho
  · rename_i hne
    exact fun hfl => hne (h.oneInflight b hb hfl).2

theorem State.Inv.owner_release_ne_unusable (h : s.Inv) (hx : s.txState = .latching) {b : Nat} (hb : b < 2) :
    (s.setOwner s.inflightH.toNat .writable).owner b ≠ .unusable := by
  rw [s.owner_setOwner .writable s.inflightH.isLt hb]
  split
  · decide
  · exact fun hun => absurd (h.unusable b hb hun) (by simp [hx])

/-- From `Latching` to `Idle` (43_tx_commands.md R194, 44_engine_steps.md R215): CANCEL and LATCH_DONE release the buffer in
flight and stop the timer, and what else they write is already so. -/
theorem State.Inv.inv_release (h : s.Inv) (hx : s.txState = .latching) (d : Bool) :
    State.Inv { s.setOwner s.inflightH.toNat .writable with
      inflightValid := false, pwmRun := false, done := d, txState := .idle } := by
  have hv : s.inflightValid = true := by rw [h.owns, hx]; rfl
  have hc : s.cfg.configured = true := h.configured_of_txState (by simp [hx])
  obtain ⟨hen, _, hduty, _⟩ := h.latching hx
  refine State.AtRest.inv_of_inv ?_ { h.memoriesOk_setOwner hv .writable with } h hc (by simp)
  exact {
    tx := .inl rfl
    noBuffer := rfl
    channelOff := by simpa using hen
    timerOff := rfl
    lineLow := by simpa using hduty
    noCompletion := by simpa using h.tcPend_eq_false (by simp [hx])
    noCountdown := by simpa using h.countdown
    owners := fun b hb => ⟨h.owner_setOwner_ne_inflight (by decide) hb,
      fun hun => absurd hun (h.owner_release_ne_unusable hx hb)⟩ }

theorem State.Inv.latchDone (h : s.Inv) (he : EngStep.enabled .latchDone s = true) :
    State.Inv { s.setOwner s.inflightH.toNat .writable with
      inflightValid := false, pwmRun := false, done := true, txState := .idle } := by
  simp only [EngStep.enabled, Bool.and_eq_true, decide_eq_true_eq] at he
  exact h.inv_release he.1.1 true

theorem State.Inv.cancelLatch (h : s.Inv) (hx : s.txState = .latching) : s.cancelLatch.Inv := by
  have heq : s.cancelLatch = { s.setOwner s.inflightH.toNat .writable with
      inflightValid := false, pwmRun := false, done := s.done, txState := .idle } := by
    obtain ⟨_, _, hduty, _⟩ := h.latching hx
    simp [State.cancelLatch, ← hduty, ← h.countdown]
  rw [heq]
  exact h.inv_release hx s.done

theorem State.Inv.enterFaulted (h : s.Inv) (hc : s.cfg.configured = true) : s.enterFaulted.Inv := by
  have hm : s.enterFaulted.MemoriesOk ∧ s.enterFaulted.OwnersAtRest := by
    unfold State.enterFaulted
    cases hv : s.inflightValid with
    | true =>
      exact ⟨{ h.memoriesOk_setOwner hv .unusable with },
        fun b hb => ⟨h.owner_setOwner_ne_inflight (by decide) hb, fun _ => rfl⟩⟩
    | false =>
      exact ⟨{ h.memoriesOk with },
        fun b hb => ⟨fun hfl => by simp [(h.oneInflight b hb hfl).1] at hv, fun _ => rfl⟩⟩
  refine State.AtRest.inv_of_inv ?_ hm.1 h hc (by simp)
  exact ⟨.inr (by simp), by simp, by simp, by simp, by simp, by simp, by simp, hm.2⟩

/-- RESET frees every buffer there is, and one there is not was free (43_tx_commands.md R200, 10_state.md R21). -/
theorem State.Inv.owner_forceIdle (h : s.Inv) (b : Nat) : s.forceIdle.owner b = .writable := by
  unfold State.owner State.buffer
  split
  · rfl
  · rw [State.forceIdle_sb1]
    split
    · rfl
    · rename_i hd
      rw [h.single (by simpa using hd)]; rfl

theorem State.Inv.forceIdle (h : s.Inv) (hc : s.cfg.configured = true) : s.forceIdle.Inv := by
  have hm : s.forceIdle.MemoriesOk := {
    pixWf := h.memoriesOk.pixWf
    pixDepth := h.memoriesOk.pixDepth
    single := fun hd => by
      rw [State.forceIdle_cfg] at hd
      simpa [hd] using h.single hd
    buffers := fun b hb => by
      rw [s.buffer_forceIdle hb]
      exact (h.memoriesOk.buffers b hb).setOwner (.inl rfl) }
  refine State.AtRest.inv_of_inv ?_ hm h hc (by simp)
  exact ⟨.inl rfl, rfl, rfl, rfl, rfl, rfl, rfl, fun b _ => by simp [h.owner_forceIdle b]⟩

/-! ## The steps of a transfer -/

/-- The state after START and after BEAT: channel and timer run, and the index is within the length. -/
theorem State.Inv.inv_transferring (h : s.Inv) (hx : s.txState = .arming ∨ s.txState = .transferring) {v : Sample}
    {wave : List Sample} {i : BitVec 32} (hv : s.cfg.IsDuty v) (hwave : ∀ u ∈ wave, s.cfg.IsDuty u)
    (hi : i.toNat ≤ s.dmaLen.toNat) (ht : s.tcPend = false) :
    State.Inv { s with
      dmaEn := true, pwmRun := true, txState := .transferring, pwmDuty := v, wave := wave, dmaIdx := i } := by
  have hc : s.cfg.configured = true := h.configured_of_txState (by rcases hx with hx | hx <;> simp [hx])
  have hvalid : s.inflightValid = true := by rcases hx with hx | hx <;> rw [h.owns, hx] <;> rfl
  refine { h with
    unconfigured := fun hu => absurd (hu.symm.trans hc) Bool.false_ne_true
    owns := hvalid
    unusable := fun b hb hun => ?_
    quiet := fun hq => ?_
    arming := fun hq => ?_
    transferring := fun _ => ⟨rfl, rfl⟩
    latching := fun hq => ?_
    indexBound := hi
    completion := fun hp => absurd (ht.symm.trans hp) Bool.false_ne_true
    doneQuiet := fun hd => ?_
    duty := hv
    waveValues := hwave }
  · have := h.unusable b hb hun
    rcases hx with hx | hx <;> simp [hx] at this
  · simp at hq
  · simp at hq
  · simp at hq
  · have := h.doneQuiet hd
    rcases hx with hx | hx <;> simp [hx] at this

theorem State.Inv.startEmpty (h : s.Inv) (he : EngStep.enabled .start s = true) :
    State.Inv { s with dmaEn := true, pwmRun := true, txState := .transferring } := by
  simp only [EngStep.enabled, Bool.and_eq_true, decide_eq_true_eq] at he
  exact h.inv_transferring (.inl he.1) h.duty h.waveValues h.indexBound (h.tcPend_eq_false (by simp [he.1]))

theorem State.Inv.start (h : s.Inv) (he : EngStep.enabled .start s = true) (hlen : s.dmaLen ≠ 0#32) :
    State.Inv { s with
      dmaEn := true
      pwmRun := true
      txState := .transferring
      pwmDuty := s.sample s.dmaSrc.toNat 0
      wave := s.wave ++ [s.sample s.dmaSrc.toNat 0]
      dmaIdx := 1#32 } := by
  simp only [EngStep.enabled, Bool.and_eq_true, decide_eq_true_eq] at he
  have hx := he.1
  have hpos : 0 < s.dmaLen.toNat := Nat.pos_of_ne_zero fun h0 => hlen (BitVec.eq_of_toNat_eq h0)
  have hduty := h.sample_isDuty (by rw [h.owns, hx]; rfl) hpos
  exact h.inv_transferring (.inl hx) hduty (h.isDuty_of_mem_append hduty) hpos (h.tcPend_eq_false (by simp [hx]))

theorem State.Inv.beat (h : s.Inv) (hd : DmaStep.enabled .beat s = true) :
    State.Inv { s with
      pwmDuty := s.sample s.dmaSrc.toNat s.dmaIdx.toNat
      wave := s.wave ++ [s.sample s.dmaSrc.toNat s.dmaIdx.toNat]
      dmaIdx := s.dmaIdx + 1#32 } := by
  simp only [DmaStep.enabled, Bool.and_eq_true, decide_eq_true_eq] at hd
  obtain ⟨⟨hen, hrun⟩, hlt⟩ := hd
  have hx := h.transferring_of_dmaEn hen
  have hduty := h.sample_isDuty (by rw [h.owns, hx]; rfl) hlt
  have hnext : (s.dmaIdx + 1#32).toNat ≤ s.dmaLen.toNat := by
    have := s.dmaLen.isLt
    rw [BitVec.toNat_add]
    simp only [BitVec.toNat_ofNat]
    omega
  have hnotc : s.tcPend = false := by
    by_contra ht
    have := (h.completion (by simpa using ht)).2
    rw [this] at hlt
    exact Nat.lt_irrefl _ hlt
  have hinv := h.inv_transferring (.inr hx) hduty (h.isDuty_of_mem_append hduty) hnext hnotc
  rw [← hrun, ← hx] at hinv
  rwa [hen.trans hrun.symm]

theorem State.Inv.complete (h : s.Inv) (he : EngStep.enabled .complete s = true) :
    State.Inv { s with
      tcPend := false, dmaEn := false, pwmDuty := 0#16, latchCnt := s.cfg.residualTicks, txState := .latching } := by
  simp only [EngStep.enabled, Bool.and_eq_true, decide_eq_true_eq] at he
  obtain ⟨⟨hx, ht⟩, _⟩ := he
  have hc : s.cfg.configured = true := h.configured_of_txState (by simp [hx])
  have hvalid : s.inflightValid = true := by rw [h.owns, hx]; rfl
  obtain ⟨_, hrun⟩ := h.transferring hx
  refine { h with
    unconfigured := fun hu => absurd (hu.symm.trans hc) Bool.false_ne_true
    owns := hvalid
    unusable := fun b hb hun => ?_
    quiet := fun hq => ?_
    arming := fun hq => ?_
    transferring := fun hq => ?_
    latching := fun _ => ⟨rfl, hrun, rfl, (h.completion ht).2⟩
    completion := fun hp => ?_
    countdown := (h.legal hc).residualTicks_eq_zero
    doneQuiet := fun hd => ?_
    duty := .inl rfl }
  · simpa [hx] using h.unusable b hb hun
  · simp at hq
  · simp at hq
  · simp at hq
  · simp at hp
  · simpa [hx] using h.doneQuiet hd

theorem State.Inv.latchTick_disabled (h : s.Inv) : EngStep.enabled .latchTick s = false := by
  simp [EngStep.enabled, h.countdown]

theorem State.Inv.tcRaise (h : s.Inv) (hd : DmaStep.enabled .tcRaise s = true) :
    State.Inv { s with tcPend := true } := by
  simp only [DmaStep.enabled, Bool.and_eq_true, decide_eq_true_eq] at hd
  obtain ⟨⟨hen, hidx⟩, _⟩ := hd
  have hx := h.transferring_of_dmaEn hen
  have hc : s.cfg.configured = true := h.configured_of_txState (by simp [hx])
  exact { h with
    unconfigured := fun hu => absurd (hu.symm.trans hc) Bool.false_ne_true
    completion := fun _ => ⟨hx, hidx⟩ }

theorem State.Inv.errRaise (h : s.Inv) (hd : DmaStep.enabled .errRaise s = true) :
    State.Inv { s with errPend := true } := by
  simp only [DmaStep.enabled, Bool.and_eq_true] at hd
  exact { h with unconfigured := fun hu => absurd (hu.symm.trans hd.1) Bool.false_ne_true }

/-! ## Every move -/

theorem CommandEffect.inv {i : Instr} {t : State} (he : CommandEffect s i t) (h : s.Inv) : t.Inv := by
  cases he with
  | refused => exact h.respond _ _
  | new hc hcap htiming hshape => exact (h.configure hc (CfgPorts.legal_toRegs hcap htiming hshape)).respond _ _
  | prepare hc hw hn => exact (h.prepareFrame hc hw hn).respond _ _
  | arm hc hx hk ho => exact (h.armBuffer hc hx hk ho).respond _ _
  | @send v n w hc hx hw hn =>
    have ho : (s.prepareFrame n w).owner w = .prepared := by simp [State.owner]
    have hlt : w < (s.prepareFrame n w).cfg.nbuf := by simpa using (State.firstWritable_eq_some.1 hw).1
    exact ((h.prepareFrame hc hw hn).armBuffer (by simpa using hc) (by simpa using hx) hlt ho).respond _ _
  | state => exact h.respond _ _
  | cancelIdle => exact h.respond _ _
  | cancelLatching hc hx => exact (h.cancelLatch hx).respond _ _
  | reset hc => exact (h.forceIdle hc).respond _ _

theorem MoveEffect.inv {m : Move} {t : State} (hm : MoveEffect s m t) (h : s.Inv) : t.Inv := by
  cases hm with
  | command hd he => exact he.inv h
  | illegal => exact h.respond _ _
  | pixwr i w => exact h.pixWrite i w
  | sbrd b i => exact h.sbRead b i
  | drive p => exact h.drivePorts p
  | lookup variant => exact h.lookupTiming variant
  | engDisabled => exact h
  | dmaDisabled => exact h
  | startEmpty he => exact h.startEmpty he
  | start he hlen => exact h.start he hlen
  | complete he => exact h.complete he
  | latchTick he => rw [h.latchTick_disabled] at he; cases he
  | latchDone he => exact h.latchDone he
  | fault he =>
    simp only [EngStep.enabled, Bool.and_eq_true] at he
    exact h.enterFaulted he.2
  | beat hd => exact h.beat hd
  | tcRaise hd => exact h.tcRaise hd
  | errRaise hd => exact h.errRaise hd
  | rst => exact s.inv_hardReset

/-- Settles O54: taking the move off the queue keeps the invariant, and so does each effect a move can have. -/
theorem everyStepKeepsTheInvariant : Obligations.EveryStepKeepsTheInvariant :=
  fun _ _ h hstep => (perform_moveEffect hstep).inv h.takeMove

end Sys2Proof.Machine
end

section
/-! SUPPORT. The contents of the sample buffers: PREPARE and SEND write one they find `WRITABLE`, and nothing else but hardware
reset writes any (20_memory.md R67). -/

namespace Sys2Proof.Machine

/-! ## The words of PREPARE and SEND -/

theorem variantBit_variantField (w : Word) : variantBit (variantField w) = w.extractLsb' 27 1 := by
  have hbit : w.extractLsb' 27 1 = BitVec.ofBool (w.getLsbD 27) := by
    apply BitVec.eq_of_getLsbD_eq
    intro i hi
    obtain rfl : i = 0 := by omega
    simp
  rw [hbit, variantField]
  cases w.getLsbD 27 <;> rfl

/-- A word with the opcode of a row of format F and its eleven zeros is that row's word of its two fields (30_encoding.md R93). -/
theorem formatF_fields_of_mask {w : Word} {op : BitVec 4} (h : w &&& 0xF7FF0000#32 = op ++ 0#28) :
    formatF op (variantField w) (countField w) = w := by
  have hpattern : op ++ 0#28 = op ++ (0#1 ++ (0#11 ++ 0#16)) := rfl
  rw [and_maskF, hpattern, append_eq_append_iff, append_eq_append_iff, append_eq_append_iff] at h
  obtain ⟨hop, _, hzeros, _⟩ := h
  conv_rhs => rw [word_eq_formatF_fields w, hop, hzeros]
  rw [formatF, countField, variantBit_variantField, BitVec.ofNat_toNat, BitVec.setWidth_eq]

theorem countField_lt (w : Word) : countField w < 65536 := (w.extractLsb' 0 16).isLt

/-- A word that decodes to PREPARE or SEND is the word of that command (30_encoding.md R97). -/
theorem encode_of_decode_formatF {w : Word} {i : Instr} {v : Variant} {n : Nat} (h : decode w = .ok i)
    (hi : i = .prepare v n ∨ i = .send v n) : n < 65536 ∧ encode i = w := by
  unfold decode at h
  split at h
  · cases h; simp at hi
  split at h
  case isTrue hsel =>
    cases h
    obtain ⟨rfl, rfl⟩ : variantField w = v ∧ countField w = n := by simpa using hi
    exact ⟨countField_lt w, formatF_fields_of_mask (eq_of_beq hsel)⟩
  split at h
  · cases h; simp at hi
  split at h
  case isTrue hsel =>
    cases h
    obtain ⟨rfl, rfl⟩ : variantField w = v ∧ countField w = n := by simpa using hi
    exact ⟨countField_lt w, formatF_fields_of_mask (eq_of_beq hsel)⟩
  · repeat' split at h
    all_goals cases h
    all_goals simp at hi

/-! ## What leaves the contents alone -/

theorem State.data_setBuffer (s : State) {k b : Nat} {x : SampleBuffer} (hx : x.data = (s.buffer k).data) :
    ((s.setBuffer k x).buffer b).data = (s.buffer b).data := by
  unfold State.buffer at hx ⊢
  unfold State.setBuffer
  split <;> split <;> simp_all

theorem State.data_setOwner (s : State) (k b : Nat) (o : Owner) :
    ((s.setOwner k o).buffer b).data = (s.buffer b).data := s.data_setBuffer rfl

theorem State.data_armBuffer (s : State) (k b : Nat) : ((s.armBuffer k).buffer b).data = (s.buffer b).data :=
  s.data_setOwner k b _

theorem State.data_cancelLatch (s : State) (b : Nat) : (s.cancelLatch.buffer b).data = (s.buffer b).data :=
  s.data_setOwner _ b _

theorem State.data_enterFaulted (s : State) (b : Nat) : (s.enterFaulted.buffer b).data = (s.buffer b).data := by
  rw [State.buffer_enterFaulted]
  split
  · exact s.data_setOwner _ b _
  · rfl

theorem State.data_forceIdle (s : State) (b : Nat) : (s.forceIdle.buffer b).data = (s.buffer b).data := by
  unfold State.buffer
  split
  · rfl
  · rw [State.forceIdle_sb1]
    split <;> rfl

theorem State.data_configure (s : State) (b : Nat) : (s.configure.buffer b).data = (s.buffer b).data := by
  unfold State.buffer
  split
  · rfl
  · rw [State.configure_sb1]
    split <;> rfl

/-- PREPARE's writes reach the buffer it chose, which it found writable, and no other. -/
theorem State.data_prepareFrame {s : State} {w : Nat} (hw : s.firstWritable = some w) (n : Nat) {b : Nat} (hb : b < 2) :
    ((s.prepareFrame n w).buffer b).data = (s.buffer b).data ∨ s.owner b = .writable := by
  by_cases hbw : b = w
  · subst hbw
    exact .inr (State.firstWritable_eq_some.1 hw).2.1
  · exact .inl (congrArg SampleBuffer.data (s.buffer_prepareFrame_other n (State.firstWritable_lt_two hw) hb hbw))

/-! ## Every move -/

/-- The command writes no contents of buffer `b`, or it is a PREPARE or a SEND that found `b` writable. -/
theorem CommandEffect.data_cases {s t : State} {i : Instr} (h : CommandEffect s i t) {b : Nat} (hb : b < 2) :
    (t.buffer b).data = (s.buffer b).data ∨
    (s.owner b = .writable ∧ ∃ v n, i = .prepare v n ∨ i = .send v n) := by
  cases h with
  | prepare _ hw => exact (State.data_prepareFrame hw _ hb).imp_right fun ho => ⟨ho, _, _, .inl rfl⟩
  | @send v n w _ _ hw =>
    refine ((State.data_prepareFrame hw n hb).imp_left fun hd => ?_).imp_right fun ho => ⟨ho, _, _, .inr rfl⟩
    exact ((s.prepareFrame n w).data_armBuffer w b).trans hd
  | refused | state | cancelIdle => exact .inl rfl
  | new => exact .inl (s.data_configure b)
  | arm => exact .inl (s.data_armBuffer _ b)
  | cancelLatching => exact .inl (s.data_cancelLatch b)
  | reset => exact .inl (s.data_forceIdle b)

/-- The move writes no contents of buffer `b`, or it is the word of a PREPARE or of a SEND that found `b` writable, or it is
hardware reset. -/
theorem MoveEffect.data_cases {s t : State} {m : Move} (h : MoveEffect s m t) (hm : m ≠ .rst) {b : Nat} (hb : b < 2) :
    (t.buffer b).data = (s.buffer b).data ∨
    (s.owner b = .writable ∧
      ∃ v n, n < 65536 ∧ (m = .command (encode (.prepare v n)) ∨ m = .command (encode (.send v n)))) := by
  cases h with
  | command hd he =>
    refine (he.data_cases hb).imp_right ?_
    rintro ⟨ho, v, n, hi⟩
    obtain ⟨hn, rfl⟩ := encode_of_decode_formatF hd hi
    exact ⟨ho, v, n, hn, hi.imp (congrArg (Move.command ∘ encode)) (congrArg (Move.command ∘ encode))⟩
  | latchDone => exact .inl (s.data_setOwner _ b _)
  | fault => exact .inl (s.data_enterFaulted b)
  | rst => exact absurd rfl hm
  | _ => exact .inl rfl

/-- Settles O49: of the effects of a move only PREPARE's and SEND's write contents, those of a buffer found writable. -/
theorem onlyWritableBuffersAreWritten : Obligations.OnlyWritableBuffersAreWritten := by
  intro m s t b hb h hm
  have hcases := (perform_moveEffect h).data_cases hm hb
  exact ⟨fun ho => hcases.resolve_right fun hw => ho hw.1, fun hne => (hcases.resolve_left hne).2⟩

end Sys2Proof.Machine
end

section
/-! SUPPORT. The steps of ENG and DMA that fetch, and the elements they fetch: they exist and have been written (20_memory.md R61,
R68, R78). -/

namespace Sys2Proof.Machine

variable {s : State}

/-! ## The enabling conditions of the steps that fetch -/

theorem EngStep.enabled_start_iff : EngStep.enabled .start s = true ↔ s.txState = .arming ∧ s.errPend = false := by
  simp [EngStep.enabled]

theorem EngStep.enabled_complete_iff :
    EngStep.enabled .complete s = true ↔ (s.txState = .transferring ∧ s.tcPend = true) ∧ s.errPend = false := by
  simp [EngStep.enabled]

theorem DmaStep.enabled_beat_iff :
    DmaStep.enabled .beat s = true ↔ (s.dmaEn = true ∧ s.pwmRun = true) ∧ s.dmaIdx.toNat < s.dmaLen.toNat := by
  simp [DmaStep.enabled]

/-! ## The armed buffer's elements -/

theorem State.dmaLen_pos (s : State) (h : s.dmaLen ≠ 0#32) : 0 < s.dmaLen.toNat :=
  Nat.pos_of_ne_zero (BitVec.toNat_ne.1 h)

/-- An index below the length the channel was given is that of an element that exists (20_memory.md R61). -/
theorem State.Inv.elementExists (h : s.Inv) (hv : s.inflightValid = true) {i : Nat} (hi : i < s.dmaLen.toNat) :
    s.elementExists s.dmaSrc.toNat i = true := by
  obtain ⟨hlt, _, hsrc, hlen⟩ := h.inflight hv
  obtain ⟨n, hn, hframe, _⟩ := h.inflight_holdsFrame hv
  have hc : s.cfg.configured = true := h.configured_of_txState fun hx => by rw [h.owns, hx] at hv; cases hv
  have hcap : i < s.cfg.sbCap :=
    calc i
      _ < (s.sbLen s.inflightH.toNat).toNat := by rwa [hlen] at hi
      _ = s.cfg.frameLen n := hframe
      _ ≤ s.cfg.sbCap := s.cfg.frameLen_le_sbCap hn
  simp [State.elementExists, hc, hsrc, hlt, hcap]

/-- The channel fetches what Encode wrote, no free value (20_memory.md R68). -/
theorem State.Inv.read_inflight (h : s.Inv) (hv : s.inflightValid = true) {i : Nat} (hi : i < s.dmaLen.toNat) :
    Mem.read (s.buffer s.inflightH.toNat).data i = some (s.sample s.dmaSrc.toNat i) := by
  obtain ⟨_, _, hsrc, hlen⟩ := h.inflight hv
  obtain ⟨v, hr, _⟩ := (h.inflight_holdsFrame hv).read_isDuty (i := i) (by rwa [hlen] at hi)
  rw [hsrc, State.sample_eq_of_read hr, hr]

end Sys2Proof.Machine
end

section
/-! SUPPORT. Every move answers a next state: only a fetch of an element that does not exist could stop the machine (log 8). -/

namespace Sys2Proof.Machine

variable {s : State}

/-- The outcome is a next state. -/
def IsNext (o : Host.Outcome State Fault Refusal) : Prop := ∃ t, o = .next t

theorem isNext_next (t : State) : IsNext (.next t) := ⟨t, rfl⟩

theorem isNext_raise (st : Status) (s : State) : IsNext (raise st s) := ⟨_, rfl⟩

theorem isNext_ite {c : Prop} [Decidable c] {o₁ o₂ : Host.Outcome State Fault Refusal} (h₁ : c → IsNext o₁)
    (h₂ : ¬c → IsNext o₂) : IsNext (if c then o₁ else o₂) := by
  split
  · exact h₁ ‹_›
  · exact h₂ ‹_›

/-- A check of a command: it ends in an error or the command goes on. -/
theorem isNext_check {c : Prop} [Decidable c] {st : Status} {o : Host.Outcome State Fault Refusal} (h : IsNext o) :
    IsNext (if c then raise st s else o) := isNext_ite (fun _ => isNext_raise st s) fun _ => h

theorem isNext_execPrepare (v : Variant) (n : Nat) (s : State) : IsNext (execPrepare v n s) := by
  refine isNext_check ?_
  cases s.firstWritable with
  | none => exact isNext_raise _ s
  | some w =>
    cases s.cfg.encodeError v n with
    | some st => exact isNext_raise st s
    | none => exact isNext_next _

theorem isNext_execSend (v : Variant) (n : Nat) (s : State) : IsNext (execSend v n s) := by
  refine isNext_check (isNext_check (isNext_check ?_))
  cases s.firstWritable with
  | none => exact isNext_raise _ s
  | some w =>
    cases s.cfg.encodeError v n with
    | some st => exact isNext_raise st s
    | none => exact isNext_next _

theorem isNext_execCancel (s : State) : IsNext (execCancel s) := by
  refine isNext_check ?_
  cases s.txState with
  | idle | latching => exact isNext_next _
  | arming | transferring | faulted => exact isNext_raise _ s

/-- Every command ends in a next state, in an error or not (60_exceptions.md R250). -/
theorem isNext_exec (i : Instr) (s : State) : IsNext (exec i s) := by
  cases i with
  | new => exact isNext_check (isNext_check (isNext_check (isNext_check (isNext_next _))))
  | prepare v n => exact isNext_execPrepare v n s
  | arm k => exact isNext_check (isNext_check (isNext_check (isNext_check (isNext_next _))))
  | send v n => exact isNext_execSend v n s
  | state => exact isNext_check (isNext_next _)
  | cancel => exact isNext_execCancel s
  | reset => exact isNext_check (isNext_next _)

theorem isNext_runCommand (w : Word) (s : State) : IsNext (runCommand w s) := by
  unfold runCommand
  split
  · exact isNext_exec _ s
  · exact isNext_raise _ s

theorem State.Inv.isNext_engStep (h : s.Inv) (e : EngStep) : IsNext (e.run s) := by
  refine isNext_ite (fun he => ?_) fun _ => isNext_next s
  cases e with
  | start =>
    have hx := (EngStep.enabled_start_iff.1 he).1
    refine isNext_ite (fun _ => isNext_next _) fun hlen => ?_
    have hv := h.owns.trans (congrArg TxState.ownsBuffer hx)
    have hexists := h.elementExists hv (s.dmaLen_pos hlen)
    exact isNext_ite (fun _ => isNext_next _) fun hne => absurd hexists hne
  | complete | latchTick | latchDone | fault => exact isNext_next _

theorem State.Inv.isNext_dmaStep (h : s.Inv) (d : DmaStep) : IsNext (d.run s) := by
  refine isNext_ite (fun hd => ?_) fun _ => isNext_next s
  cases d with
  | beat =>
    obtain ⟨⟨hen, _⟩, hlt⟩ := DmaStep.enabled_beat_iff.1 hd
    have hv := h.owns.trans (congrArg TxState.ownsBuffer (h.transferring_of_dmaEn hen))
    have hexists := h.elementExists hv hlt
    exact isNext_ite (fun _ => isNext_next _) fun hne => absurd hexists hne
  | tcRaise | errRaise => exact isNext_next _

theorem State.Inv.isNext_perform (h : s.Inv) (m : Move) : IsNext (perform m s) := by
  cases m with
  | command w => exact isNext_runCommand w s
  | eng e => exact h.isNext_engStep e
  | dma d => exact h.isNext_dmaStep d
  | pixwr | sbrd | drive | lookup | rst => exact isNext_next _

/-- Settles O55: only START and BEAT can stop, and under the invariant the element they fetch exists. -/
theorem noStepStops : Obligations.NoStepStops := fun s h => h.takeMove.isNext_perform s.nextMove

end Sys2Proof.Machine
end

section
/-! SUPPORT. What a transfer has delivered is the prefix of the buffer in flight: START and BEAT extend it, no other move
touches it (20_memory.md R78, 45_dma_pwm_agent.md R237, R238). -/

namespace Sys2Proof.Machine

variable {s : State}

/-! ## The prefix on the recorded wave -/

/-- The recorded wave ends with the elements `0 .. DMA_IDX−1` of the buffer in flight, in order. -/
def State.WaveEndsWithPrefix (s : State) : Prop :=
  s.dmaIdx.toNat ≤ s.wave.length ∧
    (s.wave.drop (s.wave.length - s.dmaIdx.toNat)).map some =
      (List.range s.dmaIdx.toNat).map (Mem.read (s.buffer s.inflightH.toNat).data)

theorem State.delivered_iff :
    s.Delivered ↔ (s.txState = .transferring ∨ s.txState = .latching → s.WaveEndsWithPrefix) := Iff.rfl

/-- Outside `Transferring` and `Latching` nothing is claimed. -/
theorem State.delivered_of_txState_ne (h₁ : s.txState ≠ .transferring) (h₂ : s.txState ≠ .latching) :
    s.Delivered := fun hx => (hx.elim h₁ h₂).elim

/-- Before the first fetch the prefix is empty. -/
theorem State.waveEndsWithPrefix_of_dmaIdx_zero (h : s.dmaIdx = 0#32) : s.WaveEndsWithPrefix := by
  simp [State.WaveEndsWithPrefix, h]

/-- Delivering the next element of the buffer makes the delivered prefix one longer. -/
theorem State.WaveEndsWithPrefix.deliver {t : State} {v : Sample} (h : s.WaveEndsWithPrefix)
    (hread : Mem.read (s.buffer s.inflightH.toNat).data s.dmaIdx.toNat = some v) (hwave : t.wave = s.wave ++ [v])
    (hidx : t.dmaIdx.toNat = s.dmaIdx.toNat + 1)
    (hbuf : t.buffer t.inflightH.toNat = s.buffer s.inflightH.toNat) : t.WaveEndsWithPrefix := by
  obtain ⟨hle, hprefix⟩ := h
  unfold State.WaveEndsWithPrefix
  rw [hwave, hidx, hbuf, List.length_append, List.length_singleton, Nat.add_sub_add_right,
    List.drop_append_of_le_length (Nat.sub_le _ _), List.map_append, hprefix, List.range_succ, List.map_append]
  exact ⟨Nat.succ_le_succ hle, by simp [hread]⟩

/-- The index does not wrap while it is below the length. -/
theorem State.dmaIdx_succ_toNat (s : State) (h : s.dmaIdx.toNat < s.dmaLen.toNat) :
    (s.dmaIdx + 1#32).toNat = s.dmaIdx.toNat + 1 :=
  BitVec.toNat_add_of_lt (Nat.lt_of_le_of_lt h s.dmaLen.isLt)

/-! ## Every move -/

/-- PREPARE writes a writable buffer, so not the one in flight. -/
theorem State.Inv.delivered_prepareFrame (h : s.Inv) (hd : s.Delivered) {w : Nat} (hw : s.firstWritable = some w)
    (n : Nat) : (s.prepareFrame n w).Delivered := by
  intro hx
  rw [State.prepareFrame_txState] at hx
  have hv : s.inflightValid = true := by rw [h.owns]; rcases hx with hx | hx <;> rw [hx] <;> rfl
  obtain ⟨_, ho, _, _⟩ := h.inflight hv
  have hdata := (State.data_prepareFrame hw n s.inflightH.isLt).resolve_right (by rw [ho]; decide)
  simpa [hdata] using hd hx

theorem CommandEffect.delivered {i : Instr} {t : State} (he : CommandEffect s i t) (h : s.Inv) (hd : s.Delivered) :
    t.Delivered := by
  cases he with
  | refused | state | cancelIdle => exact hd
  | prepare _ hw => exact h.delivered_prepareFrame hd hw _
  | arm | send | new | cancelLatching | reset => exact State.delivered_of_txState_ne (by simp) (by simp)

theorem MoveEffect.delivered {m : Move} {t : State} (hm : MoveEffect s m t) (h : s.Inv) (hd : s.Delivered) :
    t.Delivered := by
  cases hm with
  | command _ he => exact he.delivered h hd
  | illegal | pixwr | sbrd | drive | lookup | engDisabled | dmaDisabled | latchTick | tcRaise | errRaise => exact hd
  | startEmpty he =>
    obtain ⟨_, _, hidx⟩ := h.arming (EngStep.enabled_start_iff.1 he).1
    exact fun _ => State.waveEndsWithPrefix_of_dmaIdx_zero hidx
  | start he hlen =>
    obtain ⟨hx, _⟩ := EngStep.enabled_start_iff.1 he
    obtain ⟨_, _, hidx⟩ := h.arming hx
    have hread := h.read_inflight (h.owns.trans (congrArg TxState.ownsBuffer hx)) (s.dmaLen_pos hlen)
    exact fun _ => (State.waveEndsWithPrefix_of_dmaIdx_zero hidx).deliver (by rw [hidx]; exact hread) rfl
      (by rw [hidx]; rfl) rfl
  | complete he =>
    obtain ⟨⟨hx, _⟩, _⟩ := EngStep.enabled_complete_iff.1 he
    exact fun _ => hd (.inl hx)
  | latchDone | fault | rst => exact State.delivered_of_txState_ne (by simp) (by simp)
  | beat hb =>
    obtain ⟨⟨hen, _⟩, hlt⟩ := DmaStep.enabled_beat_iff.1 hb
    have hx := h.transferring_of_dmaEn hen
    have hread := h.read_inflight (h.owns.trans (congrArg TxState.ownsBuffer hx)) hlt
    exact fun _ => (State.delivered_iff.1 hd (.inl hx)).deliver hread rfl (s.dmaIdx_succ_toNat hlt) rfl

/-- Settles O56: START and BEAT fetch the next element of the buffer in flight, and no other move that leaves the core in
`Transferring` or `Latching` touches `WAVE`, the index or that buffer. -/
theorem everyStepKeepsTheDeliveredPrefix : Obligations.EveryStepKeepsTheDeliveredPrefix :=
  fun _ _ h hd hstep => (perform_moveEffect hstep).delivered h.takeMove hd

end Sys2Proof.Machine
end

section
/-! SUPPORT. The host's port operations: what PIXWR writes and who does not see it, and what SBRD reads (20_memory.md R64 to
R66, R75). -/

namespace Sys2Proof.Machine

/-! ## PIXWR beside ENG and DMA -/

section
variable (s : State) (i : BitVec 16) (w : Pixel)

theorem State.setBuffer_pixWrite (b : Nat) (x : SampleBuffer) :
    (s.pixWrite i w).setBuffer b x = (s.setBuffer b x).pixWrite i w := by
  unfold State.setBuffer
  split <;> rfl

theorem State.setOwner_pixWrite (b : Nat) (o : Owner) :
    (s.pixWrite i w).setOwner b o = (s.setOwner b o).pixWrite i w := s.setBuffer_pixWrite i w b _

theorem State.enterFaulted_pixWrite : (s.pixWrite i w).enterFaulted = s.enterFaulted.pixWrite i w := by
  unfold State.enterFaulted
  rw [State.pixWrite_inflightValid, State.pixWrite_inflightH, s.setOwner_pixWrite]
  cases s.inflightValid <;> rfl

variable {s i w} {t : State}

/-- The channel fetches from a sample buffer, never from `PIX`. -/
theorem State.deliver_pixWrite {k : BitVec 32} (h : s.deliver k = .next t) :
    (s.pixWrite i w).deliver k = .next (t.pixWrite i w) := by
  obtain ⟨hexists, rfl⟩ := State.deliver_cases h
  exact if_pos hexists

theorem stepStart_pixWrite (h : stepStart s = .next t) : stepStart (s.pixWrite i w) = .next (t.pixWrite i w) := by
  rcases stepStart_cases h with ⟨hlen, rfl⟩ | ⟨hlen, hexists, rfl⟩
  · exact if_pos hlen
  · exact (if_neg hlen).trans (if_pos hexists)

theorem stepLatchDone_pixWrite (h : stepLatchDone s = .next t) :
    stepLatchDone (s.pixWrite i w) = .next (t.pixWrite i w) := by
  cases h
  unfold stepLatchDone
  rw [State.pixWrite_inflightH, s.setOwner_pixWrite]
  rfl

theorem stepFault_pixWrite (h : stepFault s = .next t) : stepFault (s.pixWrite i w) = .next (t.pixWrite i w) := by
  cases h
  exact congrArg _ (s.enterFaulted_pixWrite i w)

theorem EngStep.run_pixWrite {e : EngStep} (h : e.run s = .next t) :
    e.run (s.pixWrite i w) = .next (t.pixWrite i w) := by
  have henabled : e.enabled (s.pixWrite i w) = e.enabled s := by cases e <;> rfl
  rcases EngStep.run_cases h with ⟨he, rfl⟩ | ⟨he, heff⟩
  · exact EngStep.run_of_not_enabled (henabled.trans he)
  · rw [EngStep.run, if_pos (henabled.trans he)]
    cases e with
    | start => exact stepStart_pixWrite heff
    | latchDone => exact stepLatchDone_pixWrite heff
    | fault => exact stepFault_pixWrite heff
    | complete | latchTick => cases heff; rfl

theorem DmaStep.run_pixWrite {d : DmaStep} (h : d.run s = .next t) :
    d.run (s.pixWrite i w) = .next (t.pixWrite i w) := by
  have henabled : d.enabled (s.pixWrite i w) = d.enabled s := by cases d <;> rfl
  rcases DmaStep.run_cases h with ⟨hd, rfl⟩ | ⟨hd, heff⟩
  · exact DmaStep.run_of_not_enabled (henabled.trans hd)
  · rw [DmaStep.run, if_pos (henabled.trans hd)]
    cases d with
    | beat => exact State.deliver_pixWrite heff
    | tcRaise | errRaise => cases heff; rfl

end

/-- Settles O12: no enabling condition and no effect of ENG or DMA reads or writes `PIX`. -/
theorem pixelWritesDoNotReachTheTransfer : Obligations.PixelWritesDoNotReachTheTransfer :=
  fun _ _ _ => ⟨fun _ _ => EngStep.run_pixWrite, fun _ _ => DmaStep.run_pixWrite⟩

/-! ## The entry written -/

/-- The channels R, G and B stand in the low 24 bits of an entry (10_state.md R45). -/
theorem channelByte_eq_of_low {px px' : Pixel} (h : px.extractLsb' 0 24 = px'.extractLsb' 0 24) {id : ChannelId}
    (hid : id ≠ 3#2) : channelByte px id = channelByte px' id := by
  have hne : id.toNat ≠ 3 := BitVec.toNat_ne.1 hid
  have hlow : ∀ q : Pixel, channelByte q id = (q.extractLsb' 0 24).extractLsb' (8 * id.toNat) 8 :=
    fun _ => (BitVec.extractLsb'_extractLsb'_of_le (by have := id.isLt; omega)).symm
  rw [hlow, hlow, h]

theorem CfgRegs.Legal.pixelSamples_eq_of_low {c : CfgRegs} (hl : c.Legal) (hc : c.chCount = 3#3) {px px' : Pixel}
    (h : px.extractLsb' 0 24 = px'.extractLsb' 0 24) : c.pixelSamples px = c.pixelSamples px' := by
  unfold CfgRegs.pixelSamples
  refine List.flatMap_congr fun id hid => ?_
  rw [channelByte_eq_of_low h fun hw => hl.orderNoWhite hc (hw ▸ hid)]

theorem State.pixel_pixWrite_same (s : State) (i : BitVec 16) (w : Pixel) : (s.pixWrite i w).pixel i.toNat = w := by
  simp [State.pixel]

/-- Settles O36: the memory's laws, the channels' bits, and no white in a legal 3-channel order. -/
theorem pixwrWritesOneEntry : Obligations.PixwrWritesOneEntry := by
  refine ⟨fun s i w => ⟨s.pixWrite i w, rfl, ?_, fun j hj => ?_, s.pixel_pixWrite_same i w, rfl⟩,
    fun w => ⟨rfl, rfl, rfl, rfl⟩, fun c w w' hl hc => hl.pixelSamples_eq_of_low hc⟩
  · exact Mem.read_write_same s.pix i.toNat w
  · exact Mem.read_write_other s.pix w hj.symm

/-! ## SBRD -/

theorem State.debugSample_of_read {s : State} {b i : Nat} {v : Sample} (hc : s.cfg.configured = true)
    (hb : b < s.cfg.nbuf) (hi : i < s.cfg.sbCap) (hr : Mem.read (s.buffer b).data i = some v) :
    s.debugSample b i = v := by
  have hexists : s.elementExists b i = true := by simp [State.elementExists, hc, hb, hi]
  rw [State.debugSample, if_pos hexists, State.sample_eq_of_read hr]

/-- Settles O37: SBRD writes `sb_data` alone, with the element where there is a written one. -/
theorem sbrdReadsWithoutEffect : Obligations.SbrdReadsWithoutEffect :=
  fun s b i => ⟨s.sbRead b i, rfl, rfl, rfl, fun _ hc hb hi hr => congrArg some (State.debugSample_of_read hc hb hi hr)⟩

end Sys2Proof.Machine
end

section
/-! SUPPORT. Which words a row of the opcode map selects, and the decoder and the encoder as each other's inverses
(30_encoding.md R91 to R97). -/

namespace Sys2Proof

variable {w : Word}

/-! ## The selection test of a row -/

theorem OpcodeRow.selects_iff {r : OpcodeRow} : r.selects w = true ↔ w &&& r.mask = r.pattern := beq_iff_eq

/-- A row of format Z selects by the opcode and the 28 zeros (30_encoding.md R92). -/
theorem selects_iff_formatZ {r : OpcodeRow} {op : BitVec 4} (hm : r.mask = 0xFFFFFFFF#32) (hp : r.pattern = op ++ 0#28) :
    r.selects w = true ↔ opField w = op ∧ w.extractLsb' 0 28 = 0#28 := by
  rw [OpcodeRow.selects_iff, hm, hp, and_maskZ, append_eq_append_iff]

/-- A row of format F selects by the opcode and the eleven zeros (30_encoding.md R93). -/
theorem selects_iff_formatF {r : OpcodeRow} {op : BitVec 4} (hm : r.mask = 0xF7FF0000#32)
    (hp : r.pattern = op ++ (0#1 ++ (0#11 ++ 0#16))) :
    r.selects w = true ↔ opField w = op ∧ w.extractLsb' 16 11 = 0#11 := by
  rw [OpcodeRow.selects_iff, hm, hp, and_maskF, append_eq_append_iff, append_eq_append_iff, append_eq_append_iff]
  simp

/-- A row of format H selects by the opcode and the 27 zeros (30_encoding.md R94). -/
theorem selects_iff_formatH {r : OpcodeRow} {op : BitVec 4} (hm : r.mask = 0xFFFFFFFE#32)
    (hp : r.pattern = op ++ (0#27 ++ 0#1)) :
    r.selects w = true ↔ opField w = op ∧ w.extractLsb' 1 27 = 0#27 := by
  rw [OpcodeRow.selects_iff, hm, hp, and_maskH, append_eq_append_iff, append_eq_append_iff]
  simp

theorem rowNew_selects_iff : rowNew.selects w = true ↔ opField w = 1#4 ∧ w.extractLsb' 0 28 = 0#28 :=
  selects_iff_formatZ rfl rfl

theorem rowPrepare_selects_iff : rowPrepare.selects w = true ↔ opField w = 2#4 ∧ w.extractLsb' 16 11 = 0#11 :=
  selects_iff_formatF rfl rfl

theorem rowArm_selects_iff : rowArm.selects w = true ↔ opField w = 3#4 ∧ w.extractLsb' 1 27 = 0#27 :=
  selects_iff_formatH rfl rfl

theorem rowSend_selects_iff : rowSend.selects w = true ↔ opField w = 4#4 ∧ w.extractLsb' 16 11 = 0#11 :=
  selects_iff_formatF rfl rfl

theorem rowState_selects_iff : rowState.selects w = true ↔ opField w = 5#4 ∧ w.extractLsb' 0 28 = 0#28 :=
  selects_iff_formatZ rfl rfl

theorem rowCancel_selects_iff : rowCancel.selects w = true ↔ opField w = 6#4 ∧ w.extractLsb' 0 28 = 0#28 :=
  selects_iff_formatZ rfl rfl

theorem rowReset_selects_iff : rowReset.selects w = true ↔ opField w = 7#4 ∧ w.extractLsb' 0 28 = 0#28 :=
  selects_iff_formatZ rfl rfl

/-! ## The opcode of a row -/

/-- Every mask keeps the whole opcode (30_encoding.md R96). -/
theorem opField_of_selects {r : OpcodeRow} (hr : r ∈ opcodeMap) (h : r.selects w = true) :
    opField w = opField r.pattern := by
  have hmask : ∀ r ∈ opcodeMap, opField r.mask = BitVec.allOnes 4 := by decide
  calc opField w
    _ = opField w &&& opField r.mask := by rw [hmask r hr, BitVec.and_allOnes]
    _ = opField (w &&& r.mask) := BitVec.extractLsb'_and.symm
    _ = opField r.pattern := by rw [OpcodeRow.selects_iff.1 h]

theorem row_eq_of_opField_eq {r r' : OpcodeRow} (hr : r ∈ opcodeMap) (hr' : r' ∈ opcodeMap)
    (h : opField r.pattern = opField r'.pattern) : r = r' := by
  have hinj : ∀ r ∈ opcodeMap, ∀ r' ∈ opcodeMap, opField r.pattern = opField r'.pattern → r = r' := by decide
  exact hinj r hr r' hr' h

/-- The rows are disjoint (30_encoding.md R96). -/
theorem row_eq_of_selects {r r' : OpcodeRow} (hr : r ∈ opcodeMap) (hr' : r' ∈ opcodeMap) (h : r.selects w = true)
    (h' : r'.selects w = true) : r = r' :=
  row_eq_of_opField_eq hr hr' ((opField_of_selects hr h).symm.trans (opField_of_selects hr' h'))

theorem opcodeAssigned_of_opField {r : OpcodeRow} (hr : r ∈ opcodeMap) (h : opField w = opField r.pattern) :
    opcodeAssigned w = true := by
  have hassigned : ∀ r ∈ opcodeMap, opcodeAssigned r.pattern = true := by decide
  simpa only [opcodeAssigned, h] using hassigned r hr

/-- Settles O4: each mask keeps the opcode and the zeros of its format, and no two rows share an opcode. -/
theorem rowsSelectByOpcodeAndZeroBits : Obligations.RowsSelectByOpcodeAndZeroBits :=
  fun _ => ⟨rowNew_selects_iff, rowPrepare_selects_iff, rowArm_selects_iff, rowSend_selects_iff, rowState_selects_iff,
    rowCancel_selects_iff, rowReset_selects_iff, fun _ hr _ hr' => row_eq_of_selects hr hr'⟩

/-! ## The decoder -/

theorem rowOf_mem_opcodeMap (i : Instr) : rowOf i ∈ opcodeMap := by
  cases i <;> simp [rowOf, opcodeMap]

theorem exists_rowOf_eq {r : OpcodeRow} (hr : r ∈ opcodeMap) : ∃ i, rowOf i = r := by
  simp only [opcodeMap, List.mem_cons, List.not_mem_nil, or_false] at hr
  rcases hr with rfl | rfl | rfl | rfl | rfl | rfl | rfl
  exacts [⟨.new, rfl⟩, ⟨.prepare .rgb 0, rfl⟩, ⟨.arm 0, rfl⟩, ⟨.send .rgb 0, rfl⟩, ⟨.state, rfl⟩, ⟨.cancel, rfl⟩,
    ⟨.reset, rfl⟩]

/-- The command of the row of `i` with the operands `w` holds in its fields (30_encoding.md R95). -/
def Instr.withFieldsOf (w : Word) : Instr → Instr
  | .new => .new
  | .prepare _ _ => .prepare (variantField w) (countField w)
  | .arm _ => .arm (handleField w)
  | .send _ _ => .send (variantField w) (countField w)
  | .state => .state
  | .cancel => .cancel
  | .reset => .reset

@[simp] theorem rowOf_withFieldsOf (w : Word) (i : Instr) : rowOf (i.withFieldsOf w) = rowOf i := by
  cases i <;> rfl

/-- A word that selects a row decodes to a command of that row, with the word's fields. -/
theorem decode_of_selects {i : Instr} (h : (rowOf i).selects w = true) : decode w = .ok (i.withFieldsOf w) := by
  have honly : ∀ r ∈ opcodeMap, r.selects w = decide (r = rowOf i) := fun r hr =>
    Bool.eq_iff_iff.2 ⟨fun hsel => decide_eq_true (row_eq_of_selects hr (rowOf_mem_opcodeMap i) hsel h),
      fun heq => of_decide_eq_true heq ▸ h⟩
  simp only [opcodeMap, List.forall_mem_cons] at honly
  obtain ⟨hnew, hprepare, harm, hsend, hstate, hcancel, hreset, _⟩ := honly
  simp only [decode, hnew, hprepare, harm, hsend, hstate, hcancel, hreset]
  cases i <;> rfl

/-- A word decodes to a command exactly if it selects the command's row and holds the command's operands. -/
theorem decode_eq_ok_iff {i : Instr} : decode w = .ok i ↔ (rowOf i).selects w = true ∧ i.withFieldsOf w = i := by
  constructor
  · intro h
    unfold decode at h
    repeat' split at h
    all_goals cases h
    all_goals exact ⟨‹_›, rfl⟩
  · rintro ⟨hsel, hfields⟩
    rw [decode_of_selects hsel, hfields]

/-- A word that selects no row is illegal (30_encoding.md R97). -/
theorem decode_of_no_row (h : ∀ r ∈ opcodeMap, r.selects w = false) : decode w = .error (illegalReason w) := by
  simp only [opcodeMap, List.forall_mem_cons] at h
  obtain ⟨hnew, hprepare, harm, hsend, hstate, hcancel, hreset, _⟩ := h
  simp [decode, hnew, hprepare, harm, hsend, hstate, hcancel, hreset]

/-! ## The fields of an encoded command -/

theorem formatF_fields (op : BitVec 4) (v : Variant) (n : Nat) :
    variantBit v = (formatF op v n).extractLsb' 27 1 ∧ BitVec.ofNat 16 n = (formatF op v n).extractLsb' 0 16 := by
  have h := word_eq_formatF_fields (formatF op v n)
  conv at h => lhs; rw [formatF]
  rw [append_eq_append_iff, append_eq_append_iff, append_eq_append_iff] at h
  obtain ⟨_, hv, _, hn⟩ := h
  exact ⟨hv, hn⟩

theorem formatH_field (op : BitVec 4) (k : Nat) : BitVec.ofNat 1 k = (formatH op k).extractLsb' 0 1 := by
  have h := word_eq_formatH_fields (formatH op k)
  conv at h => lhs; rw [formatH]
  rw [append_eq_append_iff, append_eq_append_iff] at h
  obtain ⟨_, _, hk⟩ := h
  exact hk

theorem variantBit_injective : Function.Injective variantBit := by
  rintro (_ | _) (_ | _) h
  · rfl
  · cases h
  · cases h
  · rfl

theorem variantField_formatF (op : BitVec 4) (v : Variant) (n : Nat) : variantField (formatF op v n) = v :=
  variantBit_injective ((Machine.variantBit_variantField _).trans (formatF_fields op v n).1.symm)

theorem countField_formatF (op : BitVec 4) (v : Variant) {n : Nat} (hn : n < 65536) :
    countField (formatF op v n) = n := by
  rw [countField, ← (formatF_fields op v n).2, BitVec.toNat_ofNat, Nat.mod_eq_of_lt hn]

theorem handleField_formatH (op : BitVec 4) {k : Nat} (hk : k < 2) : handleField (formatH op k) = k := by
  rw [handleField, ← formatH_field op k, BitVec.toNat_ofNat, Nat.mod_eq_of_lt hk]

theorem withFieldsOf_encode {i : Instr} (h : i.wellFormed = true) : i.withFieldsOf (encode i) = i := by
  cases i with
  | prepare v n | send v n =>
    simp only [Instr.withFieldsOf, encode, variantField_formatF, countField_formatF _ v (of_decide_eq_true h)]
  | arm k => simp only [Instr.withFieldsOf, encode, handleField_formatH _ (of_decide_eq_true h)]
  | new | state | cancel | reset => rfl

theorem rowOf_selects_encode (i : Instr) : (rowOf i).selects (encode i) = true := by
  cases i with
  | new => exact Laws.WordSelectsItsRow.new
  | prepare v n => exact Laws.WordSelectsItsRow.prepare v n
  | arm k => exact Laws.WordSelectsItsRow.arm k
  | send v n => exact Laws.WordSelectsItsRow.send v n
  | state => exact Laws.WordSelectsItsRow.state
  | cancel => exact Laws.WordSelectsItsRow.cancel
  | reset => exact Laws.WordSelectsItsRow.reset

/-- Settles O1: the word selects the command's row whatever the operands, and holds those that fit their fields. -/
theorem decodeOfEncodeIsTheCommand : Obligations.DecodeOfEncodeIsTheCommand :=
  fun i h => decode_eq_ok_iff.2 ⟨rowOf_selects_encode i, withFieldsOf_encode h⟩

/-- Settles O3: each word is the encoding of its command. -/
theorem exampleWordsDecode : Obligations.ExampleWordsDecode :=
  ⟨decodeOfEncodeIsTheCommand (.send .rgb 3) rfl, decodeOfEncodeIsTheCommand (.send .rgbw 1) rfl,
    decodeOfEncodeIsTheCommand (.prepare .rgb 3) rfl, decodeOfEncodeIsTheCommand (.prepare .rgbw 65535) rfl,
    decodeOfEncodeIsTheCommand (.arm 1) rfl, decodeOfEncodeIsTheCommand .new rfl, decodeOfEncodeIsTheCommand .state rfl,
    decodeOfEncodeIsTheCommand .cancel rfl, decodeOfEncodeIsTheCommand .reset rfl⟩

/-! ## The word of a decoded command -/

theorem handleField_lt (w : Word) : handleField w < 2 := (w.extractLsb' 0 1).isLt

theorem wellFormed_withFieldsOf (w : Word) (i : Instr) : (i.withFieldsOf w).wellFormed = true := by
  cases i with
  | prepare | send => exact decide_eq_true (Machine.countField_lt w)
  | arm => exact decide_eq_true (handleField_lt w)
  | new | state | cancel | reset => rfl

/-- A word with the opcode of format Z and the 28 zeros is that opcode's word (30_encoding.md R92). -/
theorem formatZ_of_mask {op : BitVec 4} (h : w &&& 0xFFFFFFFF#32 = op ++ 0#28) : formatZ op = w := by
  have hw : w &&& 0xFFFFFFFF#32 = w := BitVec.and_allOnes
  rw [formatZ, ← h, hw]

/-- A word with the opcode of format H and the 27 zeros is that opcode's word of its field (30_encoding.md R94). -/
theorem formatH_field_of_mask {op : BitVec 4} (h : w &&& 0xFFFFFFFE#32 = op ++ (0#27 ++ 0#1)) :
    formatH op (handleField w) = w := by
  rw [and_maskH, append_eq_append_iff, append_eq_append_iff] at h
  obtain ⟨hop, hzeros, _⟩ := h
  conv_rhs => rw [word_eq_formatH_fields w, hop, hzeros]
  rw [formatH, handleField, BitVec.ofNat_toNat, BitVec.setWidth_eq]

/-- A word that selects a row is its opcode, its zeros and its operand fields, and nothing else. -/
theorem encode_withFieldsOf {i : Instr} (h : (rowOf i).selects w = true) : encode (i.withFieldsOf w) = w := by
  have hmask := OpcodeRow.selects_iff.1 h
  cases i with
  | prepare | send => exact Machine.formatF_fields_of_mask hmask
  | arm => exact formatH_field_of_mask hmask
  | new | state | cancel | reset => exact formatZ_of_mask hmask

/-- Settles O2: the decoder reads every operand from its field, and the rest of the word is fixed by the row. -/
theorem encodeOfDecodeIsTheWord : Obligations.EncodeOfDecodeIsTheWord := by
  intro w i h
  obtain ⟨hsel, hfields⟩ := decode_eq_ok_iff.1 h
  rw [← hfields]
  exact ⟨wellFormed_withFieldsOf w i, encode_withFieldsOf hsel⟩

/-! ## Illegal words -/

theorem no_row_of_opcode_unassigned (h : opcodeAssigned w = false) : ∀ r ∈ opcodeMap, r.selects w = false := by
  intro r hr
  by_contra hsel
  rw [opcodeAssigned_of_opField hr (opField_of_selects hr (Bool.eq_true_of_not_eq_false hsel))] at h
  cases h

/-- A word that fails the test of the row with its opcode selects no row at all: every other row has another opcode. -/
theorem no_row_of_not_selects {r : OpcodeRow} (hr : r ∈ opcodeMap) (hop : opField w = opField r.pattern)
    (h : r.selects w ≠ true) : opcodeAssigned w = true ∧ ∀ r' ∈ opcodeMap, r'.selects w = false := by
  refine ⟨opcodeAssigned_of_opField hr hop, fun r' hr' => ?_⟩
  by_contra hsel
  have hsel := Bool.eq_true_of_not_eq_false hsel
  obtain rfl := row_eq_of_opField_eq hr hr' (hop.symm.trans (opField_of_selects hr' hsel))
  exact h hsel

/-- The words of an assigned opcode with a nonzero must-be-zero bit (30_encoding.md R97). -/
theorem no_row_of_nonzero_bits
    (h : (opField w = 1#4 ∨ opField w = 5#4 ∨ opField w = 6#4 ∨ opField w = 7#4) ∧ w.extractLsb' 0 28 ≠ 0#28 ∨
      opField w = 3#4 ∧ w.extractLsb' 1 27 ≠ 0#27 ∨
      (opField w = 2#4 ∨ opField w = 4#4) ∧ w.extractLsb' 16 11 ≠ 0#11) :
    opcodeAssigned w = true ∧ ∀ r ∈ opcodeMap, r.selects w = false := by
  rcases h with ⟨hop | hop | hop | hop, hne⟩ | ⟨hop, hne⟩ | ⟨hop | hop, hne⟩
  · exact no_row_of_not_selects (rowOf_mem_opcodeMap .new) hop fun h => hne (rowNew_selects_iff.1 h).2
  · exact no_row_of_not_selects (rowOf_mem_opcodeMap .state) hop fun h => hne (rowState_selects_iff.1 h).2
  · exact no_row_of_not_selects (rowOf_mem_opcodeMap .cancel) hop fun h => hne (rowCancel_selects_iff.1 h).2
  · exact no_row_of_not_selects (rowOf_mem_opcodeMap .reset) hop fun h => hne (rowReset_selects_iff.1 h).2
  · exact no_row_of_not_selects (rowOf_mem_opcodeMap (.arm 0)) hop fun h => hne (rowArm_selects_iff.1 h).2
  · exact no_row_of_not_selects (rowOf_mem_opcodeMap (.prepare .rgb 0)) hop fun h => hne (rowPrepare_selects_iff.1 h).2
  · exact no_row_of_not_selects (rowOf_mem_opcodeMap (.send .rgb 0)) hop fun h => hne (rowSend_selects_iff.1 h).2

theorem decode_of_selects_row {r : OpcodeRow} (hr : r ∈ opcodeMap) (h : r.selects w = true) :
    ∃ i, decode w = .ok i ∧ (rowOf i).selects w = true := by
  obtain ⟨i, rfl⟩ := exists_rowOf_eq hr
  exact ⟨i.withFieldsOf w, decode_of_selects h, by rwa [rowOf_withFieldsOf]⟩

end Sys2Proof
end

section
/-! SUPPORT. A word on the command port is answered in the step that takes it (30_encoding.md R97, R100 to R102). -/

namespace Sys2Proof.Machine

variable {s t : State} {w : Word} {i : Instr}

/-! ## The command port -/

theorem perform_command_of_ok (h : decode w = .ok i) (s : State) : perform (.command w) s = exec i s := by
  simp only [perform, runCommand, h]

theorem perform_command_of_error {e : Illegal} (h : decode w = .error e) (s : State) :
    perform (.command w) s = .next (s.respond .errIllegalCmd 0#3) := by
  simp only [perform, runCommand, h, raise]

/-- Settles O7: the step makes the move at the queue's head, and the command port runs what the word decodes to. -/
theorem stepRunsTheDecodedCommand : Obligations.StepRunsTheDecodedCommand :=
  fun _ _ _ _ hinbox hd => (step_cons hinbox).trans (perform_command_of_ok hd _)

/-- Settles O5: a word that selects no row decodes to an error, and a row is selected by its opcode and its zeros only. -/
theorem illegalWordIsAnsweredAndChangesNothing : Obligations.IllegalWordIsAnsweredAndChangesNothing :=
  ⟨fun _ s h => perform_command_of_error (decode_of_no_row h) s, fun _ => no_row_of_opcode_unassigned,
    no_row_of_opcode_unassigned rfl, fun _ => no_row_of_nonzero_bits, fun _ ⟨_, hr, h⟩ => decode_of_selects_row hr h⟩

/-! ## The response -/

theorem Status.code_le (st : Status) : st.code.toNat ≤ 8 := by
  cases st <;> decide

theorem CommandEffect.exists_rsp (h : CommandEffect s i t) : ∃ r, t.rsp = some r := by
  cases h <;> exact ⟨_, State.respond_rsp _ _ _⟩

theorem exists_rsp_of_perform_command (h : perform (.command w) s = .next t) : ∃ r, t.rsp = some r := by
  rcases runCommand_cases h with ⟨i, _, he⟩ | ⟨e, _, rfl⟩
  · exact (exec_commandEffect he).exists_rsp
  · exact ⟨_, State.respond_rsp _ _ _⟩

/-- Settles O8: every command ends in a next state, and each of its effects responds. -/
theorem everyWordIsAnsweredAtOnce : Obligations.EveryWordIsAnsweredAtOnce := by
  intro w s
  obtain ⟨t, ht⟩ := isNext_runCommand w s
  obtain ⟨r, hr⟩ := exists_rsp_of_perform_command (w := w) ht
  exact ⟨t, r, ht, hr, r.status.code_le⟩

/-! ## The value of the response (30_encoding.md R101) -/

theorem CommandEffect.value_of_prepare {v : Variant} {n : Nat} {r : Response} (h : CommandEffect s (.prepare v n) t)
    (hr : t.rsp = some r) (hok : r.status = .ok) :
    ∃ b, b < s.cfg.nbuf ∧ t.owner b = .prepared ∧ s.owner b = .writable ∧ r.value = BitVec.ofNat 3 b := by
  cases h with
  | refused hst => cases hr; exact absurd hok hst
  | @prepare _ _ b _ hw _ =>
    cases hr
    obtain ⟨hlt, howner, _⟩ := State.firstWritable_eq_some.1 hw
    have hprepared : (s.prepareFrame n b).owner b = .prepared := by simp [State.owner]
    exact ⟨b, hlt, hprepared, howner, rfl⟩

theorem CommandEffect.value_of_state {r : Response} (h : CommandEffect s .state t) (hr : t.rsp = some r)
    (hok : r.status = .ok) : r.value = s.txState.code := by
  cases h with
  | refused hst => cases hr; exact absurd hok hst
  | state => cases hr; rfl

theorem CommandEffect.value_of_other {r : Response} (h : CommandEffect s i t) (hr : t.rsp = some r) (hi : i ≠ .state)
    (hi' : ∀ v n, i ≠ .prepare v n) : r.value = 0#3 := by
  cases h with
  | state => exact absurd rfl hi
  | prepare => exact absurd rfl (hi' _ _)
  | _ => cases hr; rfl

theorem CommandEffect.value_of_error {r : Response} (h : CommandEffect s i t) (hr : t.rsp = some r)
    (hst : r.status ≠ .ok) : r.value = 0#3 := by
  cases h with
  | refused => cases hr; rfl
  | _ => cases hr; exact absurd rfl hst

/-- Settles O9: an illegal word answers 0, and so does every effect of a command but PREPARE's and STATE's. -/
theorem responseValueIsHandleStateOrZero : Obligations.ResponseValueIsHandleStateOrZero := by
  refine ⟨fun w s t e hd h => ?_, fun i s t r h hr => ?_⟩
  · rw [perform_command_of_error hd] at h
    cases h; rfl
  · have heff := exec_commandEffect h
    exact ⟨fun v n hi hok => (hi ▸ heff).value_of_prepare hr hok, fun hi hok => (hi ▸ heff).value_of_state hr hok,
      heff.value_of_other hr, heff.value_of_error hr⟩

end Sys2Proof.Machine
end

section
/-! SUPPORT. The command NEW as one equation, the refusal of every other command while `CONFIGURED = 0`, and what both say of CFG
(40_config.md R122, R123, R126 to R128). -/

namespace Sys2Proof.Machine

variable {s t : State}

/-! ## NEW -/

/-- The conditions under which NEW succeeds (40_config.md R126). -/
structure State.AcceptsNew (s : State) : Prop where
  unconfigured : s.cfg.configured = false
  capacity : s.ports.capPix ≠ 0#16
  timing : s.ports.spec.timingOk = true
  shape : s.ports.spec.shapeOk = true

theorem execNew_of_accepts (h : s.AcceptsNew) : execNew s = .next (s.configure.respond .ok 0#3) := by
  simp [execNew, h.unconfigured, h.capacity, h.timing, h.shape]

theorem execNew_of_not_accepts (h : ¬s.AcceptsNew) : execNew s = .next (s.respond .errConfig 0#3) := by
  unfold execNew
  split_ifs with hconfigured hcap htiming hshape
  case neg => exact absurd ⟨by simpa using hconfigured, hcap, by simpa using htiming, by simpa using hshape⟩ h
  all_goals rfl

theorem State.AcceptsNew.legal (h : s.AcceptsNew) : s.ports.toRegs.Legal :=
  CfgPorts.legal_toRegs h.capacity h.timing h.shape

theorem TimingSpec.channelAt_ne_white_iff (p : TimingSpec) :
    (p.chCount = 3#3 → (3#2 : ChannelId) ∉ (List.range p.chCount.toNat).map p.channelAt) ↔
      (p.chCount = 3#3 → ∀ k < 3, p.channelAt k ≠ 3#2) :=
  forall_congr' fun h => by simp [h]

theorem TimingSpec.channelAt_ne_of_shapeOk {p : TimingSpec} (h : p.shapeOk = true) {j k : Nat} (hjk : j < k)
    (hk : k < p.chCount.toNat) : p.channelAt j ≠ p.channelAt k := by
  obtain ⟨-, -, hnodup, -⟩ := (shapeOk_iff p).1 h
  intro heq
  have hj : j = k := List.inj_on_of_nodup_map hnodup (List.mem_range.2 (hjk.trans hk)) (List.mem_range.2 hk) heq
  exact absurd hj hjk.ne

theorem State.configure_sb1_of_single (h : s.configure.cfg.double = false) : s.configure.sb1 = s.sb1 :=
  (s.configure_sb1).trans (if_neg (by simpa [CfgPorts.toRegs] using h))

/-- Settles O14: the hypotheses are NEW's checks, and the state it leaves is `State.configure`, field by field. -/
theorem newConfiguresTheCore : Obligations.NewConfiguresTheCore := by
  refine ⟨fun _ _ => rfl, fun _ _ => rfl, ?_⟩
  intro s hc hcap ht0 ht01 ht1 hbits hch hnodup hwhite
  have haccepts : s.AcceptsNew :=
    ⟨hc, hcap, (timingOk_iff _).2 ⟨ht0, ht01, ht1⟩,
      (shapeOk_iff _).2 ⟨hbits, hch, hnodup, (TimingSpec.channelAt_ne_white_iff _).2 hwhite⟩⟩
  refine ⟨_, execNew_of_accepts haccepts, rfl, rfl, rfl, rfl, rfl, rfl, rfl, rfl, rfl, rfl, rfl, hbits, rfl, rfl,
    fun b => s.buffer_configure, State.configure_sb1_of_single, ?_⟩
  simp

/-- Settles O15: each listed fault of the ports denies one of NEW's checks. -/
theorem newRefusesABadConfiguration : Obligations.NewRefusesABadConfiguration := by
  intro s hbad
  refine execNew_of_not_accepts fun h => ?_
  obtain ⟨ht0, ht01, ht1⟩ := (timingOk_iff _).1 h.timing
  obtain ⟨hbits, hch, -, hwhite⟩ := (shapeOk_iff _).1 h.shape
  rcases hbad with hc | hcap | hzero | hle | hle | hne | ⟨h3, h4⟩ | ⟨j, k, hjk, hk, heq⟩ | ⟨h3, k, hk, heq⟩
  · simp [h.unconfigured] at hc
  · exact h.capacity hcap
  · simp [hzero] at ht0
  · exact ht01.not_ge hle
  · exact ht1.not_ge hle
  · exact hne hbits
  · exact hch.elim h3 h4
  · exact TimingSpec.channelAt_ne_of_shapeOk h.shape hjk hk heq
  · exact (TimingSpec.channelAt_ne_white_iff _).1 hwhite h3 k hk heq

/-! ## The unconfigured core -/

theorem exec_of_unconfigured {i : Instr} (hc : s.cfg.configured = false) (hi : i ≠ .new) :
    exec i s = .next (s.respond .errConfig 0#3) := by
  cases i with
  | new => exact absurd rfl hi
  | prepare v n => simp [exec, execPrepare, hc, raise]
  | arm k => simp [exec, execArm, hc, raise]
  | send v n => simp [exec, execSend, hc, raise]
  | state => simp [exec, execState, hc, raise]
  | cancel => simp [exec, execCancel, hc, raise]
  | reset => simp [exec, execReset, hc, raise]

/-- Settles O16: every command but NEW checks `CONFIGURED` first, and an illegal word is refused in every state. -/
theorem unconfiguredCommandsAreRefused : Obligations.UnconfiguredCommandsAreRefused :=
  fun s _ hc => ⟨fun _ hd hi => (perform_command_of_ok hd s).trans (exec_of_unconfigured hc hi),
    fun _ hd => perform_command_of_error hd s⟩

/-! ## The timing registers -/

/-- CFG is kept by every move but hardware reset once `CONFIGURED = 1` (40_config.md R127). -/
theorem cfg_eq_of_configured {m : Move} (hc : s.cfg.configured = true) (hm : m ≠ .rst) (h : perform m s = .next t) :
    t.cfg = s.cfg := by
  by_contra hne
  rcases configurationIsImmutable m s t h hne with hrst | ⟨-, hunconfigured, -⟩
  · exact hm hrst
  · simp [hc] at hunconfigured

theorem accepts_of_execNew_ok {r : Response} (h : exec .new s = .next t) (hr : t.rsp = some r) (hok : r.status = .ok) :
    s.AcceptsNew ∧ t.cfg = s.ports.toRegs := by
  cases exec_commandEffect h with
  | refused hst => cases hr; exact absurd hok hst
  | new hc hcap htiming hshape => exact ⟨⟨hc, hcap, htiming, hshape⟩, rfl⟩

/-- Settles O18: the order is part of CFG's legality, CFG is immutable, and NEW's timing check is the order. -/
theorem timingOrderHoldsOnceConfigured : Obligations.TimingOrderHoldsOnceConfigured := by
  refine ⟨fun s h hc => ?_, fun m s t hc hm h => ?_, fun s t r h hr hok => ?_⟩
  · have hlegal := h.legal hc
    exact ⟨hlegal.t0Positive, hlegal.t0BelowT1, hlegal.t1BelowPeriod⟩
  · simp [cfg_eq_of_configured hc hm h]
  · obtain ⟨haccepts, hcfg⟩ := accepts_of_execNew_ok h hr hok
    have hlegal := haccepts.legal
    rw [hcfg]
    exact ⟨hlegal.t0Positive, hlegal.t0BelowT1, hlegal.t1BelowPeriod, rfl, rfl, rfl⟩

end Sys2Proof.Machine
end

section
/-! SUPPORT. The encoder: its checks, a frame's samples in closed form and as a set, reading them back against the threshold, and the
outcome of Encode as a function of the configuration and the pixels (41_encoder.md R141 to R154). -/

namespace Sys2Proof.Machine

/-! ## The checks (41_encoder.md R141 to R143) -/

theorem CfgRegs.Legal.encodeError_of_capPix_lt {c : CfgRegs} (h : c.Legal) (v : Variant) {n : Nat}
    (hn : c.capPix.toNat < n) : c.encodeError v n = some .errBufTooSmall :=
  if_pos (Nat.lt_of_not_le fun hle => hn.not_ge ((h.frameLen_le_iff n).1 hle))

theorem CfgRegs.encodeError_of_mismatch {c : CfgRegs} {v : Variant} {n : Nat} (hn : n ≤ c.capPix.toNat)
    (hv : ¬(v = .rgbw ↔ c.chCount = 4#3)) : c.encodeError v n = some .errChannelMismatch := by
  rw [CfgRegs.encodeError, if_neg (c.frameLen_le_sbCap hn).not_gt, if_pos (by simpa using hv)]

/-- Settles O20: the frame is longer than the buffer exactly when `N > CAP_PIX`, and past that check the variant decides. -/
theorem encoderChecksCapacityThenVariant : Obligations.EncoderChecksCapacityThenVariant :=
  fun c v _ h => ⟨h.encodeError_of_capPix_lt v, CfgRegs.encodeError_of_mismatch,
    fun hn hv => encodeError_eq_none.2 ⟨c.frameLen_le_sbCap hn, hv⟩⟩

/-! ## A frame's samples (41_encoder.md R144, R154) -/

/-- Position `7 − j` of a byte on the wire is its bit `j`: the most significant bit goes first. -/
theorem byteBits_getElem? (x : BitVec 8) {j : Nat} (hj : j ≤ 7) : (byteBits x)[7 - j]? = some (x.getLsbD j) := by
  interval_cases j <;> rfl

theorem channelByte_getLsbD (px : Pixel) (id : ChannelId) {j : Nat} (hj : j ≤ 7) :
    (channelByte px id).getLsbD j = px.getLsbD (8 * id.toNat + j) := by
  simp [channelByte, Nat.lt_succ_of_le hj]

theorem CfgRegs.isDuty_of_mem_frame {c : CfgRegs} {pixels : List Pixel} {v : Sample} (hv : v ∈ c.frame pixels) :
    c.IsDuty v := by
  rcases List.mem_append.1 hv with hbit | htrailer
  · obtain ⟨px, _, hmem⟩ := List.mem_flatMap.1 hbit
    exact .inr (CfgRegs.mem_pixelSamples hmem)
  · exact .inl (List.eq_of_mem_replicate htrailer)

namespace CfgRegs.Legal

variable {c : CfgRegs} (h : c.Legal)
include h

/-- Position `q` of the byte at wire position `k` of pixel `p`. -/
theorem frame_getElem?_byte {pixels : List Pixel} {p k q : Nat} {px : Pixel} {id : ChannelId}
    (hp : pixels[p]? = some px) (hk : c.order[k]? = some id) (hq : q < 8) :
    (c.frame pixels)[p * c.bpp + 8 * k + q]? = ((byteBits (channelByte px id))[q]?).map c.bitSample := by
  have hbits := h.bits_getElem? pixels p k q px id hp hk hq
  have hlt : p * c.bpp + 8 * k + q < (pixels.flatMap c.pixelSamples).length := by
    by_contra hge
    rw [List.getElem?_eq_none (Nat.le_of_not_lt hge), List.getElem?_eq_getElem (by simpa using hq)] at hbits
    cases hbits
  rw [CfgRegs.frame, List.getElem?_append_left hlt, hbits]

/-- The eight samples from a byte's first index on are that byte's. -/
theorem frame_byte {pixels : List Pixel} {p k : Nat} {px : Pixel} {id : ChannelId} (hp : pixels[p]? = some px)
    (hk : c.order[k]? = some id) :
    ((c.frame pixels).drop (p * c.bpp + 8 * k)).take 8 = (byteBits (channelByte px id)).map c.bitSample := by
  apply List.ext_getElem?
  intro q
  by_cases hq : q < 8
  · rw [List.getElem?_take_of_lt hq, List.getElem?_drop, h.frame_getElem?_byte hp hk hq, List.getElem?_map]
  · rw [List.getElem?_eq_none (by simp; omega), List.getElem?_eq_none (by simp; omega)]

theorem t0High_ne_zero : c.t0High ≠ 0#16 := fun hz => absurd h.t0Positive (by simp [hz])

theorem t1High_ne_zero : c.t1High ≠ 0#16 := fun hz => absurd h.t0BelowT1 (by simp [hz])

end CfgRegs.Legal

/-- Settles O21: the wire sends bit `j` at position `7 − j` of the byte, and bit `j` of a channel is bit `8c + j` of the pixel. -/
theorem frameSampleClosedForm : Obligations.FrameSampleClosedForm := by
  intro c pixels p k j px id h hp hk hj
  rw [h.frame_getElem?_byte hp hk (by omega), byteBits_getElem? _ hj, channelByte_getLsbD px id hj]
  rfl

/-- Settles O22: the frame is the bit samples and then the trailer, and a legal CFG has `0 < T0_HIGH < T1_HIGH`. -/
theorem frameLengthAndValueLaws : Obligations.FrameLengthAndValueLaws :=
  fun _ pixels h => ⟨h.frame_length pixels, fun _ => h.frame_getElem?_bit pixels,
    fun _ => h.frame_getElem?_trailer pixels, h.t0High_ne_zero, h.t1High_ne_zero, rfl⟩

/-! ## Reading a frame back (41_encoder.md R151) -/

/-- Eight bits put together, most significant first, are the byte they came from. -/
theorem byteOfBits_byteBits (x : BitVec 8) : byteOfBits (byteBits x) = x := by
  apply BitVec.eq_of_getLsbD_eq
  intro i hi
  interval_cases i <;> simp [byteOfBits, byteBits]

namespace CfgRegs.Legal

variable {c : CfgRegs} (h : c.Legal)
include h

theorem t0High_le_threshold : c.t0High.toNat ≤ c.threshold := by
  have := h.t0BelowT1
  unfold CfgRegs.threshold
  omega

theorem threshold_lt_t1High : c.threshold < c.t1High.toNat := by
  have := h.t0BelowT1
  unfold CfgRegs.threshold
  omega

theorem readBit_bitSample (b : Bool) : c.readBit (c.bitSample b) = b := by
  cases b with
  | false => exact decide_eq_false h.t0High_le_threshold.not_gt
  | true => exact decide_eq_true h.threshold_lt_t1High

/-- The byte read back at its place in the frame is the byte that was encoded there. -/
theorem readByte_frame {pixels : List Pixel} {p k : Nat} {px : Pixel} {ch : ChannelId} (hp : pixels[p]? = some px)
    (hk : c.order[k]? = some ch) : c.readByte (c.frame pixels) (p * c.bpp + 8 * k) = channelByte px ch := by
  have hread : c.readBit ∘ c.bitSample = id := funext h.readBit_bitSample
  rw [CfgRegs.readByte, h.frame_byte hp hk, List.map_map, hread, List.map_id, byteOfBits_byteBits]

theorem two_mul_ne_of_isDuty {v : Sample} (hv : c.IsDuty v) : 2 * v.toNat ≠ c.t0High.toNat + c.t1High.toNat := by
  have := h.t0Positive
  have := h.t0BelowT1
  rcases hv with rfl | rfl | rfl
  · rw [BitVec.toNat_ofNat]; omega
  · omega
  · omega

/-- Of 0, `T0_HIGH` and `T1_HIGH` only `T0_HIGH` can be the threshold, and then the two high times are neighbours. -/
theorem eq_of_isDuty_of_eq_threshold {v : Sample} (hv : c.IsDuty v) (heq : v.toNat = c.threshold) :
    c.t1High.toNat = c.t0High.toNat + 1 ∧ c.threshold = c.t0High.toNat := by
  have h0 := h.t0Positive
  have hlo := h.t0High_le_threshold
  have hhi := h.threshold_lt_t1High
  rcases hv with rfl | rfl | rfl
  · rw [BitVec.toNat_ofNat] at heq; omega
  · unfold CfgRegs.threshold at *; omega
  · omega

end CfgRegs.Legal

/-- Settles O23: the threshold tells the two bit samples apart, so each byte's samples read back as its bits; no value a frame holds
is halfway between them. -/
theorem thresholdReadingRecoversEveryByte : Obligations.ThresholdReadingRecoversEveryByte :=
  fun _ _ h => ⟨fun _ _ _ _ hp hk => h.readByte_frame hp hk, h.t0High_le_threshold, h.threshold_lt_t1High,
    fun _ hv => have hduty := CfgRegs.isDuty_of_mem_frame hv
      ⟨h.two_mul_ne_of_isDuty hduty, h.eq_of_isDuty_of_eq_threshold hduty⟩⟩

/-! ## The outcome of Encode (41_encoder.md R152) -/

/-- The error PREPARE ends in once it has a writable buffer: a function of CFG, the variant and the count. -/
def CfgRegs.prepareError (c : CfgRegs) (v : Variant) (n : Nat) : Option Status :=
  if c.configured then c.encodeError v n else some .errConfig

theorem CfgRegs.prepareError_ne_ok {c : CfgRegs} {v : Variant} {n : Nat} {st : Status}
    (h : c.prepareError v n = some st) : st ≠ .ok := by
  unfold CfgRegs.prepareError at h
  split at h
  · exact encodeError_ne_ok h
  · cases h; decide

theorem CfgRegs.encodeError_of_prepareError {c : CfgRegs} {v : Variant} {n : Nat} (h : c.prepareError v n = none) :
    c.configured = true ∧ c.encodeError v n = none := by
  unfold CfgRegs.prepareError at h
  split at h
  · exact ⟨‹_›, h⟩
  · cases h

section
variable {s : State} {v : Variant} {n w : Nat} (hw : s.firstWritable = some w)
include hw

theorem exec_prepare_of_error {st : Status} (he : s.cfg.prepareError v n = some st) :
    exec (.prepare v n) s = .next (s.respond st 0#3) := by
  unfold CfgRegs.prepareError at he
  split at he
  case isTrue hc => simp [exec, execPrepare, hc, hw, he, raise]
  case isFalse hc => cases he; simp [exec, execPrepare, hc, raise]

theorem exec_prepare_of_no_error (he : s.cfg.prepareError v n = none) :
    exec (.prepare v n) s = .next ((s.prepareFrame n w).respond .ok (BitVec.ofNat 3 w)) := by
  obtain ⟨hc, hok⟩ := CfgRegs.encodeError_of_prepareError he
  simp [exec, execPrepare, hc, hw, hok]

end

@[simp] theorem State.sbLen_respond (s : State) (st : Status) (v : BitVec 3) (b : Nat) :
    (s.respond st v).sbLen b = s.sbLen b := rfl

@[simp] theorem State.sbLen_prepareFrame (s : State) (n w : Nat) :
    (s.prepareFrame n w).sbLen w = BitVec.ofNat 32 (s.cfg.frameLen n) := by
  rw [State.sbLen, State.buffer_prepareFrame_same]

theorem CfgRegs.Legal.read_prepareFrame {s : State} (h : s.cfg.Legal) {n i : Nat} (w : Nat)
    (hi : i < s.cfg.frameLen n) :
    Mem.read ((s.prepareFrame n w).buffer w).data i = (s.cfg.frame (s.pixelBuffer n))[i]? := by
  rw [State.buffer_prepareFrame_same, Mem.read_overlay, h.frame_length, State.pixelBuffer_length, if_pos hi]

theorem State.pixelBuffer_congr {s s' : State} {n : Nat} (h : ∀ p, p < n → s.pixel p = s'.pixel p) :
    s.pixelBuffer n = s'.pixelBuffer n :=
  List.map_congr_left fun p hp => h p (List.mem_range.1 hp)

/-- Settles O24: the error depends on CFG, the variant and the count only, and the frame written on the pixels read and CFG. -/
theorem encodingIsDeterministic : Obligations.EncodingIsDeterministic := by
  intro s s' t t' v n w w' r r' hcfg h hpix hw hw' ht hr ht' hr'
  cases he : s.cfg.prepareError v n with
  | some st =>
    rw [exec_prepare_of_error hw he] at ht
    rw [exec_prepare_of_error hw' (hcfg ▸ he)] at ht'
    cases ht; cases ht'; cases hr; cases hr'
    exact ⟨rfl, fun hok => absurd hok (CfgRegs.prepareError_ne_ok he)⟩
  | none =>
    rw [exec_prepare_of_no_error hw he] at ht
    rw [exec_prepare_of_no_error hw' (hcfg ▸ he)] at ht'
    cases ht; cases ht'; cases hr; cases hr'
    have hn := (h.frameLen_le_iff n).1 (encodeError_eq_none.1 (CfgRegs.encodeError_of_prepareError he).2).1
    refine ⟨rfl, fun _ => ⟨by simp [hcfg], fun i hi => ?_⟩⟩
    have hlt : i < s.cfg.frameLen n := by
      rwa [State.sbLen_respond, State.sbLen_prepareFrame, h.frameLen_toNat hn] at hi
    rw [State.buffer_respond, State.buffer_respond, h.read_prepareFrame w hlt,
      (hcfg ▸ h : s'.cfg.Legal).read_prepareFrame w' (hcfg ▸ hlt), ← hcfg, State.pixelBuffer_congr hpix]
    exact ⟨rfl, by simpa [h.frame_length] using hlt⟩

end Sys2Proof.Machine
end

section
/-! SUPPORT. The command PREPARE in its two outcomes: what its one write leaves in the buffers, and its errors in order
(42_buffer_manager.md R161, R162). -/

namespace Sys2Proof.Machine

variable {s : State}

/-! ## PREPARE succeeds -/

/-- The frame lies over what the buffer held before (41_encoder.md R147). -/
theorem State.read_prepareFrame (s : State) (n w i : Nat) :
    Mem.read ((s.prepareFrame n w).buffer w).data i =
      if i < (s.cfg.frame (s.pixelBuffer n)).length then (s.cfg.frame (s.pixelBuffer n))[i]?
      else Mem.read (s.buffer w).data i := by
  rw [State.buffer_prepareFrame_same, Mem.read_overlay]

theorem State.prepareFrame_eq_with (s : State) (n w : Nat) :
    s.prepareFrame n w = { s with sb0 := (s.prepareFrame n w).sb0, sb1 := (s.prepareFrame n w).sb1 } := by
  obtain ⟨x0, x1, he⟩ := s.setBuffer_eq_with w _
  rw [State.prepareFrame_eq, he]

/-- Settles O25: `w` is the buffer `Writable()` answers and Encode's checks pass, so the state left is `State.prepareFrame`
with the response, and each clause is a law of that write. -/
theorem prepareEncodesIntoTheLowestWritable : Obligations.PrepareEncodesIntoTheLowestWritable := by
  intro s v n w hc hlt ho hleast hn hv
  have hw : s.firstWritable = some w := State.firstWritable_eq_some.2 ⟨hlt, ho, hleast⟩
  have he : s.cfg.prepareError v n = none :=
    (if_pos hc).trans (encodeError_eq_none.2 ⟨s.cfg.frameLen_le_sbCap hn, hv⟩)
  refine ⟨_, exec_prepare_of_no_error hw he, rfl, ?_, s.sbLen_prepareFrame n w, fun i hi => ?_, fun i hi => ?_,
    fun b hb hne => s.buffer_prepareFrame_other n (State.firstWritable_lt_two hw) hb hne, ?_⟩
  · rw [State.owner_respond, State.owner, State.buffer_prepareFrame_same]
  · rw [State.buffer_respond, State.read_prepareFrame, if_pos hi]
  · rw [State.buffer_respond, State.read_prepareFrame, if_neg hi.not_gt]
  · exact congrArg (·.respond .ok (BitVec.ofNat 3 w)) (s.prepareFrame_eq_with n w)

/-! ## PREPARE refuses -/

theorem exec_prepare_of_no_writable (hc : s.cfg.configured = true) (hw : s.firstWritable = none) (v : Variant) (n : Nat) :
    exec (.prepare v n) s = .next (s.respond .errBusy 0#3) := by
  simp [exec, execPrepare, hc, hw, raise]

theorem State.exists_firstWritable (h : ∃ b, b < s.cfg.nbuf ∧ s.owner b = .writable) : ∃ w, s.firstWritable = some w := by
  obtain ⟨b, hb, ho⟩ := h
  exact Option.ne_none_iff_exists'.1 fun hnone => State.firstWritable_eq_none.1 hnone b hb ho

/-- The variant check of Encode, on any CFG whose buffer the frame fits (41_encoder.md R142). -/
theorem CfgRegs.encodeError_of_fits_of_mismatch {c : CfgRegs} {v : Variant} {n : Nat} (hfits : c.frameLen n ≤ c.sbCap)
    (hv : ¬(v = .rgbw ↔ c.chCount = 4#3)) : c.encodeError v n = some .errChannelMismatch := by
  rw [CfgRegs.encodeError, if_neg hfits.not_gt, if_pos (by simpa using hv)]

/-- Settles O26: without a writable buffer Encode is not reached, and with one PREPARE's error is Encode's. -/
theorem prepareRefusesInOrder : Obligations.PrepareRefusesInOrder := by
  intro s v n hc
  refine ⟨fun hnone => ?_, fun hex hlong => ?_, fun hex hfits hv => ?_⟩
  · exact exec_prepare_of_no_writable hc (State.firstWritable_eq_none.2 hnone) v n
  · obtain ⟨w, hw⟩ := State.exists_firstWritable hex
    exact exec_prepare_of_error hw ((if_pos hc).trans (if_pos hlong))
  · obtain ⟨w, hw⟩ := State.exists_firstWritable hex
    exact exec_prepare_of_error hw ((if_pos hc).trans (CfgRegs.encodeError_of_fits_of_mismatch hfits hv))

end Sys2Proof.Machine
end

section
/-! SUPPORT. The owner of a buffer after every operation that writes one, and the transitions they make
(42_buffer_manager.md R160). -/

namespace Sys2Proof.Machine

variable {s t : State}

/-! ## The owner after each write -/

section
variable (s) {k b : Nat} (hb : b < 2)
include hb

theorem State.owner_prepareFrame (n : Nat) (hk : k < 2) :
    (s.prepareFrame n k).owner b = if b = k then .prepared else s.owner b := by
  rw [State.prepareFrame_eq, State.owner_setBuffer s _ hk hb]

theorem State.owner_armBuffer (hk : k < 2) : (s.armBuffer k).owner b = if b = k then .inflight else s.owner b :=
  s.owner_setOwner .inflight hk hb

theorem State.owner_prepareFrame_armBuffer (n : Nat) (hk : k < 2) :
    ((s.prepareFrame n k).armBuffer k).owner b = if b = k then .inflight else s.owner b := by
  rw [State.owner_armBuffer _ hb hk, State.owner_prepareFrame s hb n hk]
  split <;> rfl

theorem State.owner_cancelLatch : s.cancelLatch.owner b = if b = s.inflightH.toNat then .writable else s.owner b :=
  s.owner_setOwner .writable s.inflightH.isLt hb

theorem State.owner_enterFaulted (hv : s.inflightValid = true) :
    s.enterFaulted.owner b = if b = s.inflightH.toNat then .unusable else s.owner b := by
  rw [State.owner, State.buffer_enterFaulted, if_pos hv]
  exact s.owner_setOwner .unusable s.inflightH.isLt hb

end

theorem State.owner_enterFaulted_of_no_buffer (hv : s.inflightValid = false) (b : Nat) :
    s.enterFaulted.owner b = s.owner b := by
  rw [State.owner, State.buffer_enterFaulted, hv]
  rfl

/-- NEW frees the buffers it configures, and one it does not was free (40_config.md R126, R128). -/
theorem State.Inv.owner_configure (h : s.Inv) (hc : s.cfg.configured = false) (b : Nat) :
    s.configure.owner b = .writable := by
  have h1 : s.sb1 = SampleBuffer.reset := congrArg State.sb1 (h.unconfigured hc)
  unfold State.owner State.buffer
  split
  · rfl
  · rw [State.configure_sb1]
    split
    · rfl
    · rw [h1]; rfl

theorem State.owner_hardReset (s : State) (b : Nat) : s.hardReset.owner b = .writable := by
  unfold State.owner State.buffer
  split <;> rfl

/-! ## The owner before each write -/

theorem State.owner_of_firstWritable {w : Nat} (hw : s.firstWritable = some w) : s.owner w = .writable := by
  obtain ⟨-, ho, -⟩ := State.firstWritable_eq_some.1 hw
  exact ho

theorem State.Inv.owner_inflightH (h : s.Inv) (hv : s.inflightValid = true) : s.owner s.inflightH.toNat = .inflight := by
  obtain ⟨-, ho, -, -⟩ := h.inflight hv
  exact ho

/-- In `Latching` the engine owns a buffer (10_state.md R27). -/
theorem State.Inv.owner_inflightH_of_latching (h : s.Inv) (hx : s.txState = .latching) :
    s.owner s.inflightH.toNat = .inflight :=
  h.owner_inflightH (by rw [h.owns, hx]; rfl)

theorem EngStep.txState_of_enabled_latchDone (he : EngStep.enabled .latchDone s = true) : s.txState = .latching := by
  simp only [EngStep.enabled, Bool.and_eq_true, decide_eq_true_eq] at he
  obtain ⟨⟨hx, -⟩, -⟩ := he
  exact hx

/-! ## The table -/

/-- An operation that writes the owner of one buffer makes one transition: from what that buffer's owner was to what was written. -/
theorem State.owner_eq_or_moved {k b : Nat} {a o : Owner} (ht : t.owner b = if b = k then o else s.owner b)
    (hk : s.owner k = a) : t.owner b = s.owner b ∨ (s.owner b == a && t.owner b == o) = true := by
  split at ht
  case isTrue hbk => exact .inr (by rw [ht, hbk, hk, beq_self_eq_true, beq_self_eq_true, Bool.and_self])
  case isFalse => exact .inl ht

theorem CommandEffect.owner_cases {w : Word} {i : Instr} (he : CommandEffect s i t) (hd : decode w = .ok i) (h : s.Inv)
    {b : Nat} (hb : b < 2) :
    t.owner b = s.owner b ∨ ownerEdge (.command w) (s.owner b) (t.owner b) = true := by
  simp only [ownerEdge, hd]
  cases he with
  | refused | state | cancelIdle => exact .inl rfl
  | new hc => exact .inr (beq_iff_eq.2 (h.owner_configure hc b))
  | prepare _ hw =>
    exact State.owner_eq_or_moved (s.owner_prepareFrame hb _ (State.firstWritable_lt_two hw))
      (State.owner_of_firstWritable hw)
  | arm _ _ hk ho => exact State.owner_eq_or_moved (s.owner_armBuffer hb (hk.trans_le s.cfg.nbuf_le)) ho
  | send _ _ hw =>
    exact State.owner_eq_or_moved (s.owner_prepareFrame_armBuffer hb _ (State.firstWritable_lt_two hw))
      (State.owner_of_firstWritable hw)
  | cancelLatching _ hx => exact State.owner_eq_or_moved (s.owner_cancelLatch hb) (h.owner_inflightH_of_latching hx)
  | reset => exact .inr (beq_iff_eq.2 (h.owner_forceIdle b))

theorem MoveEffect.owner_cases {m : Move} (hm : MoveEffect s m t) (h : s.Inv) {b : Nat} (hb : b < 2) :
    t.owner b = s.owner b ∨ ownerEdge m (s.owner b) (t.owner b) = true := by
  cases hm with
  | command hd he => exact he.owner_cases hd h hb
  | latchDone he =>
    exact State.owner_eq_or_moved (s.owner_setOwner .writable s.inflightH.isLt hb)
      (h.owner_inflightH_of_latching (EngStep.txState_of_enabled_latchDone he))
  | fault =>
    cases hv : s.inflightValid with
    | true => exact State.owner_eq_or_moved (s.owner_enterFaulted hb hv) (h.owner_inflightH hv)
    | false => exact .inl (s.owner_enterFaulted_of_no_buffer hv b)
  | rst => exact .inr (beq_iff_eq.2 (s.owner_hardReset b))
  | _ => exact .inl rfl

/-- Settles O48: each effect of a move writes no owner, frees the buffer, or makes one transition, from the owner its rule or the
invariant gives. -/
theorem ownershipMovesByTheTable : Obligations.OwnershipMovesByTheTable :=
  fun _ _ _ _ h hb ht => (perform_moveEffect ht).owner_cases h hb

end Sys2Proof.Machine
end

section
/-! SUPPORT. The commands ARM and SEND in each of their outcomes, and the hand-over of a buffer to the engine that both end in
(43_tx_commands.md R182, R186, R187). -/

namespace Sys2Proof.Machine

variable {s t : State}

/-! ## The hand-over -/

/-- The error ARM and SEND end in when the engine cannot take a buffer: they look at `TX_STATE` before they look at the buffers. -/
def TxState.handoverError : TxState → Option Status
  | .idle => none
  | .arming | .transferring | .latching => some .errBusy
  | .faulted => some .errHwFault

theorem TxState.handoverError_of_busy {x : TxState} (h : x = .arming ∨ x = .transferring ∨ x = .latching) :
    x.handoverError = some .errBusy := by
  rcases h with rfl | rfl | rfl <;> rfl

theorem TxState.handoverError_ne_ok {x : TxState} {st : Status} (h : x.handoverError = some st) : st ≠ .ok := by
  cases x <;> cases h <;> decide

theorem TxState.exists_handoverError {x : TxState} (h : x ≠ .idle) : ∃ st, x.handoverError = some st := by
  cases x with
  | idle => exact absurd rfl h
  | arming | transferring | latching | faulted => exact ⟨_, rfl⟩

/-- `t` is `s` but for the fields that ARM and SEND write (43_tx_commands.md R182, R186). -/
def HandoverOnly (s t : State) : Prop :=
  t = { s with
    sb0 := t.sb0, sb1 := t.sb1, rsp := t.rsp, txState := t.txState, dmaSrc := t.dmaSrc, dmaLen := t.dmaLen,
    dmaIdx := t.dmaIdx, inflightValid := t.inflightValid, inflightH := t.inflightH, tcPend := t.tcPend,
    done := t.done }

theorem State.handoverOnly_armBuffer (s : State) (k : Nat) : HandoverOnly s (s.armBuffer k) := by
  obtain ⟨x0, x1, he⟩ := s.setBuffer_eq_with k { s.buffer k with owner := .inflight }
  rw [HandoverOnly, State.armBuffer, State.setOwner, he]

theorem HandoverOnly.respond (h : HandoverOnly s t) (st : Status) (v : BitVec 3) : HandoverOnly s (t.respond st v) :=
  congrArg (fun u : State => u.respond st v) h

theorem HandoverOnly.of_prepareFrame {n w : Nat} (h : HandoverOnly (s.prepareFrame n w) t) : HandoverOnly s t := by
  simpa [HandoverOnly] using h

theorem State.sbLen_armBuffer (s : State) (k : Nat) : (s.armBuffer k).sbLen k = s.sbLen k := by
  simp [State.sbLen]

/-- A buffer's index fits the registers that hold it. -/
theorem toNat_bufferIndex {k : Nat} (hk : k < 2) : (BitVec.ofNat 1 k).toNat = k := Nat.mod_eq_of_lt hk

/-! ## ARM -/

section
variable (hc : s.cfg.configured = true)
include hc

theorem exec_arm_of_handoverError {st : Status} (he : s.txState.handoverError = some st) (k : Nat) :
    exec (.arm k) s = .next (s.respond st 0#3) := by
  cases hx : s.txState with
  | idle => rw [hx] at he; cases he
  | arming | transferring | latching | faulted =>
    rw [hx] at he
    cases he
    simp [exec, execArm, hc, hx, raise]

theorem exec_arm_of_bad_handle (hx : s.txState = .idle) {k : Nat} (hk : s.cfg.nbuf ≤ k ∨ s.owner k ≠ .prepared) :
    exec (.arm k) s = .next (s.respond .errBadHandle 0#3) := by
  have hbad : s.handleValid k = false :=
    decide_eq_false fun ⟨hlt, ho⟩ => hk.elim hlt.not_ge (absurd ho)
  simp [exec, execArm, hc, hx, hbad, raise]

theorem exec_arm_of_prepared (hx : s.txState = .idle) {k : Nat} (hk : k < s.cfg.nbuf) (ho : s.owner k = .prepared) :
    exec (.arm k) s = .next ((s.armBuffer k).respond .ok 0#3) := by
  have hvalid : s.handleValid k = true := decide_eq_true ⟨hk, ho⟩
  simp [exec, execArm, hc, hx, hvalid]

end

/-- Settles O27: the handle passes ARM's check, so the state left is `State.armBuffer` with the response. -/
theorem armHandsOverThePreparedBuffer : Obligations.ArmHandsOverThePreparedBuffer := by
  intro s k hc hx hk ho
  have hk2 : k < 2 := hk.trans_le s.cfg.nbuf_le
  exact ⟨_, exec_arm_of_prepared hc hx hk ho, rfl, rfl, toNat_bufferIndex hk2, rfl, rfl, rfl, toNat_bufferIndex hk2, rfl,
    rfl, s.buffer_armBuffer_same k, fun b hb hne => s.buffer_armBuffer_other hk2 hb hne,
    (s.handoverOnly_armBuffer k).respond _ _⟩

/-- Settles O28: `TX_STATE` decides first, and in `Idle` the handle. -/
theorem armRefusesInOrder : Obligations.ArmRefusesInOrder :=
  fun _ k hc =>
    ⟨fun hx => exec_arm_of_handoverError hc (congrArg TxState.handoverError hx) k,
      fun hx => exec_arm_of_handoverError hc (TxState.handoverError_of_busy hx) k,
      fun hx => exec_arm_of_bad_handle hc hx⟩

/-! ## SEND -/

section
variable (hc : s.cfg.configured = true)
include hc

theorem exec_send_of_handoverError {st : Status} (he : s.txState.handoverError = some st) (v : Variant) (n : Nat) :
    exec (.send v n) s = .next (s.respond st 0#3) := by
  cases hx : s.txState with
  | idle => rw [hx] at he; cases he
  | arming | transferring | latching | faulted =>
    rw [hx] at he
    cases he
    simp [exec, execSend, hc, hx, raise]

variable (hx : s.txState = .idle)
include hx

theorem exec_send_of_no_writable (hw : s.firstWritable = none) (v : Variant) (n : Nat) :
    exec (.send v n) s = .next (s.respond .errBusy 0#3) := by
  simp [exec, execSend, hc, hx, hw, raise]

variable {v : Variant} {n w : Nat} (hw : s.firstWritable = some w)
include hw

theorem exec_send_of_error {st : Status} (he : s.cfg.encodeError v n = some st) :
    exec (.send v n) s = .next (s.respond st 0#3) := by
  simp [exec, execSend, hc, hx, hw, he, raise]

theorem exec_send_of_no_error (he : s.cfg.encodeError v n = none) :
    exec (.send v n) s = .next (((s.prepareFrame n w).armBuffer w).respond .ok 0#3) := by
  simp [exec, execSend, hc, hx, hw, he]

end

/-- Settles O29: `w` is the buffer `Writable()` answers and Encode's checks pass, so the state left is PREPARE's frame in `w`, handed
over. -/
theorem sendEncodesAndArms : Obligations.SendEncodesAndArms := by
  intro s v n w hc hx hlt ho hleast hn hv
  have hw : s.firstWritable = some w := State.firstWritable_eq_some.2 ⟨hlt, ho, hleast⟩
  have hw2 : w < 2 := State.firstWritable_lt_two hw
  have he : s.cfg.encodeError v n = none := encodeError_eq_none.2 ⟨s.cfg.frameLen_le_sbCap hn, hv⟩
  refine ⟨_, exec_send_of_no_error hc hx hw he, rfl, rfl, toNat_bufferIndex hw2, s.sbLen_prepareFrame n w,
    (s.prepareFrame n w).sbLen_armBuffer w, rfl, ?_, rfl, toNat_bufferIndex hw2, rfl, rfl,
    fun i hi => ?_, fun i hi => ?_, fun b hb hne => ?_,
    (((s.prepareFrame n w).handoverOnly_armBuffer w).of_prepareFrame).respond _ _⟩
  · rw [State.owner_respond, s.owner_prepareFrame_armBuffer hw2 n hw2, if_pos rfl]
  · rw [State.buffer_respond, State.data_armBuffer, State.read_prepareFrame, if_pos hi]
  · rw [State.buffer_respond, State.data_armBuffer, State.read_prepareFrame, if_neg hi.not_gt]
  · rw [State.buffer_respond, State.buffer_armBuffer_other _ hw2 hb hne, s.buffer_prepareFrame_other n hw2 hb hne]

/-- Settles O30: `TX_STATE` decides first, in `Idle` the buffers, and with a writable one SEND's error is Encode's. -/
theorem sendRefusesInOrder : Obligations.SendRefusesInOrder := by
  intro s v n hc
  refine ⟨fun hx => ?_, fun hx => ?_, fun hx hnone => ?_, fun hx hex hlong => ?_, fun hx hex hfits hv => ?_⟩
  · exact exec_send_of_handoverError hc (congrArg TxState.handoverError hx) v n
  · exact exec_send_of_handoverError hc (TxState.handoverError_of_busy hx) v n
  · exact exec_send_of_no_writable hc hx (State.firstWritable_eq_none.2 hnone) v n
  · obtain ⟨w, hw⟩ := State.exists_firstWritable hex
    exact exec_send_of_error hc hx hw (if_pos hlong)
  · obtain ⟨w, hw⟩ := State.exists_firstWritable hex
    exact exec_send_of_error hc hx hw (CfgRegs.encodeError_of_fits_of_mismatch hfits hv)

/-! ## SEND as PREPARE and then ARM (43_tx_commands.md R187) -/

theorem State.setOwner_respond (s : State) (k : Nat) (o : Owner) (st : Status) (v : BitVec 3) :
    (s.respond st v).setOwner k o = (s.setOwner k o).respond st v := by
  unfold State.setOwner State.setBuffer
  split <;> rfl

/-- ARM's response replaces the one before it, and nothing else of that one is left. -/
theorem State.respond_armBuffer_respond (s : State) (k : Nat) (st st' : Status) (v v' : BitVec 3) :
    ((s.respond st v).armBuffer k).respond st' v' = (s.armBuffer k).respond st' v' := by
  unfold State.armBuffer
  rw [s.setOwner_respond]
  rfl

/-- The buffer PREPARE answered is the one that ARM then hands over. -/
theorem exec_arm_of_prepareFrame (hc : s.cfg.configured = true) (hx : s.txState = .idle) {w : Nat}
    (hw : s.firstWritable = some w) (n : Nat) :
    exec (.arm (BitVec.ofNat 3 w).toNat) ((s.prepareFrame n w).respond .ok (BitVec.ofNat 3 w)) =
      .next (((s.prepareFrame n w).armBuffer w).respond .ok 0#3) := by
  obtain ⟨hlt, -, -⟩ := State.firstWritable_eq_some.1 hw
  have hw2 : w < 2 := State.firstWritable_lt_two hw
  have hhandle : (BitVec.ofNat 3 w).toNat = w := Nat.mod_eq_of_lt (hw2.trans (by decide))
  have hprepared : ((s.prepareFrame n w).respond .ok (BitVec.ofNat 3 w)).owner w = .prepared := by
    rw [State.owner_respond, s.owner_prepareFrame hw2 n hw2, if_pos rfl]
  rw [hhandle, exec_arm_of_prepared (by simpa using hc) (by simpa using hx) (by simpa using hlt) hprepared,
    State.respond_armBuffer_respond]

/-- Settles O31: in `Idle` SEND makes PREPARE's checks in PREPARE's order, and past them its writes are PREPARE's and then ARM's. -/
theorem sendIsPrepareThenArm : Obligations.SendIsPrepareThenArm := by
  intro s t v n r hc ht hr
  refine ⟨fun hx hok => ?_, fun hx hst => ?_, fun hx => ?_⟩
  · cases exec_commandEffect ht with
    | refused hst => cases hr; exact absurd hok hst
    | prepare _ hw hn =>
      cases hr
      rw [exec_send_of_no_error hc hx hw hn]
      exact (exec_arm_of_prepareFrame hc hx hw n).symm
  · cases hw : s.firstWritable with
    | none =>
      rw [exec_prepare_of_no_writable hc hw] at ht
      cases ht; cases hr
      exact exec_send_of_no_writable hc hx hw v n
    | some w =>
      cases he : s.cfg.encodeError v n with
      | some st =>
        rw [exec_prepare_of_error hw ((if_pos hc).trans he)] at ht
        cases ht; cases hr
        exact exec_send_of_error hc hx hw he
      | none =>
        rw [exec_prepare_of_no_error hw ((if_pos hc).trans he)] at ht
        cases ht; cases hr
        exact absurd rfl hst
  · obtain ⟨st, he⟩ := TxState.exists_handoverError hx
    exact ⟨st, TxState.handoverError_ne_ok he, exec_send_of_handoverError hc he v n⟩

end Sys2Proof.Machine
end

section
/-! SUPPORT. The commands STATE, CANCEL and RESET in each of their outcomes (43_tx_commands.md R190, R194, R200). -/

namespace Sys2Proof.Machine

variable {s : State}

section
variable (hc : s.cfg.configured = true)
include hc

theorem exec_state_of_configured : exec .state s = .next (s.respond .ok s.txState.code) := by
  simp [exec, execState, hc]

theorem exec_cancel_of_latching (hx : s.txState = .latching) :
    exec .cancel s = .next (s.cancelLatch.respond .ok 0#3) := by
  simp [exec, execCancel, hc, hx]

theorem exec_cancel_of_idle (hx : s.txState = .idle) : exec .cancel s = .next (s.respond .ok 0#3) := by
  simp [exec, execCancel, hc, hx]

theorem exec_cancel_of_not_cancelable (hx : s.txState = .arming ∨ s.txState = .transferring ∨ s.txState = .faulted) :
    exec .cancel s = .next (s.respond .errNotCancelable 0#3) := by
  rcases hx with hx | hx | hx <;> simp [exec, execCancel, hc, hx, raise]

theorem exec_reset_of_configured : exec .reset s = .next (s.forceIdle.respond .ok 0#3) := by
  simp [exec, execReset, hc]

end

/-- Settles O32: STATE reads the code of `TX_STATE`, which is the numbering of 10_state.md R26. -/
theorem stateAnswersTxState : Obligations.StateAnswersTxState :=
  ⟨rfl, fun _ => ⟨exec_state_of_configured, fun hc => exec_of_unconfigured hc (by decide)⟩⟩

theorem State.cancelLatch_eq_with (s : State) :
    s.cancelLatch = { s with
      sb0 := s.cancelLatch.sb0, sb1 := s.cancelLatch.sb1, txState := .idle, inflightValid := false,
      latchCnt := 0#32, pwmRun := false, pwmDuty := 0#16 } := by
  obtain ⟨x0, x1, he⟩ := s.setBuffer_eq_with s.inflightH.toNat { s.buffer s.inflightH.toNat with owner := .writable }
  rw [State.cancelLatch, State.setOwner, he]

/-- Settles O33: CANCEL branches on `TX_STATE` alone, and what it writes in `Latching` is `State.cancelLatch`. -/
theorem cancelEndsTheLatchWait : Obligations.CancelEndsTheLatchWait := by
  refine ⟨rfl, fun s => ⟨fun hc hx => ?_, exec_cancel_of_idle, exec_cancel_of_not_cancelable,
    fun hc => exec_of_unconfigured hc (by decide)⟩⟩
  exact ⟨_, exec_cancel_of_latching hc hx, rfl, rfl, s.buffer_cancelLatch_same,
    fun b hb hne => s.buffer_cancelLatch_other hb hne, rfl, rfl, rfl, rfl, s.cancelLatch_done,
    congrArg (·.respond .ok 0#3) s.cancelLatch_eq_with⟩

theorem State.forceIdle_sb1_of_single (h : s.cfg.double = false) : s.forceIdle.sb1 = s.sb1 :=
  s.forceIdle_sb1.trans (if_neg (by simp [h]))

/-- Settles O34: a configured RESET looks at nothing, and the state it leaves is `State.forceIdle`, field by field. -/
theorem resetForcesIdle : Obligations.ResetForcesIdle :=
  ⟨rfl, fun _ hc => exec_of_unconfigured hc (by decide), fun s hc =>
    ⟨_, exec_reset_of_configured hc, rfl, rfl, fun _ => s.buffer_forceIdle, State.forceIdle_sb1_of_single, rfl, rfl, rfl,
      rfl, rfl, rfl, rfl, rfl, rfl⟩⟩

end Sys2Proof.Machine
end

section
/-! SUPPORT. The transitions of `TX_STATE` (43_tx_commands.md R180). -/

namespace Sys2Proof.Machine

variable {s t : State}

/-- NEW finds `TX_STATE` at its reset value, which is what it writes (40_config.md R126, R128). -/
theorem State.Inv.txState_of_unconfigured (h : s.Inv) (hc : s.cfg.configured = false) : s.txState = .idle :=
  congrArg State.txState (h.unconfigured hc)

/-- A row of the table that names both its ends. -/
theorem txState_row {x y a b : TxState} (hx : x = a) (hy : y = b) : (x == a && y == b) = true :=
  Bool.and_eq_true_iff.2 ⟨beq_iff_eq.2 hx, beq_iff_eq.2 hy⟩

theorem CommandEffect.txState_cases {w : Word} {i : Instr} (he : CommandEffect s i t) (hd : decode w = .ok i)
    (h : s.Inv) : t.txState = s.txState ∨ txEdge (.command w) s.txState t.txState = true := by
  simp only [txEdge, hd]
  cases he with
  | refused | state | cancelIdle => exact .inl rfl
  | prepare => exact .inl (s.prepareFrame_txState _ _)
  | new hc => exact .inl (h.txState_of_unconfigured hc).symm
  | arm _ hx => exact .inr (txState_row hx rfl)
  | send _ hx => exact .inr (txState_row hx rfl)
  | cancelLatching _ hx => exact .inr (txState_row hx rfl)
  | reset => exact .inr rfl

theorem MoveEffect.txState_cases {m : Move} (hm : MoveEffect s m t) (h : s.Inv) :
    t.txState = s.txState ∨ txEdge m s.txState t.txState = true := by
  cases hm with
  | command hd he => exact he.txState_cases hd h
  | startEmpty he | start he =>
    obtain ⟨hx, -⟩ := EngStep.enabled_start_iff.1 he
    exact .inr (txState_row hx rfl)
  | complete he =>
    obtain ⟨⟨hx, -⟩, -⟩ := EngStep.enabled_complete_iff.1 he
    exact .inr (txState_row hx rfl)
  | latchDone he => exact .inr (txState_row (EngStep.txState_of_enabled_latchDone he) rfl)
  | fault => exact .inr (beq_iff_eq.2 s.enterFaulted_txState)
  | rst => exact .inr rfl
  | _ => exact .inl rfl

/-- Settles O47: an effect that writes `TX_STATE` writes the end of its row, from the state its rule requires. -/
theorem txStateMovesByTheTable : Obligations.TxStateMovesByTheTable :=
  fun _ _ _ h ht => (perform_moveEffect ht).txState_cases h

end Sys2Proof.Machine
end

section
/-! SUPPORT. The steps of ENG: the enabling condition of each, the state an enabled one leaves, and their order
(44_engine_steps.md R210 to R218). -/

namespace Sys2Proof.Machine

variable {s : State}

/-! ## The enabling conditions -/

theorem EngStep.enabled_latchTick_iff :
    EngStep.enabled .latchTick s = true ↔ s.txState = .latching ∧ 0 < s.latchCnt.toNat := by
  simp [EngStep.enabled]

theorem EngStep.enabled_latchDone_iff :
    EngStep.enabled .latchDone s = true ↔ s.txState = .latching ∧ s.latchCnt = 0#32 ∧ s.errPend = false := by
  simp [EngStep.enabled, and_assoc]

theorem EngStep.enabled_fault_iff : EngStep.enabled .fault s = true ↔ s.errPend = true ∧ s.cfg.configured = true := by
  simp [EngStep.enabled]

theorem State.faultPin_iff : s.faultPin = true ↔ s.txState = .faulted := decide_eq_true_iff

theorem perform_eng_of_enabled {e : EngStep} (h : e.enabled s = true) : perform (.eng e) s = e.effect s := if_pos h

/-! ## The order of the steps (44_engine_steps.md R218) -/

/-- With no error pending `TX_STATE` and `LATCH_CNT` leave one step that can be enabled, or none. -/
def State.dueEngStep (s : State) : Option EngStep :=
  match s.txState with
  | .idle => none
  | .arming => some .start
  | .transferring => some .complete
  | .latching => if s.latchCnt = 0#32 then some .latchDone else some .latchTick
  | .faulted => none

theorem State.dueEngStep_of_enabled {e : EngStep} (herr : s.errPend = false) (h : e.enabled s = true) :
    s.dueEngStep = some e := by
  unfold State.dueEngStep
  cases e with
  | start => rw [(EngStep.enabled_start_iff.1 h).1]
  | complete => rw [(EngStep.enabled_complete_iff.1 h).1.1]
  | latchTick =>
    obtain ⟨hx, hpos⟩ := EngStep.enabled_latchTick_iff.1 h
    have hne : s.latchCnt ≠ 0#32 := BitVec.toNat_ne.2 hpos.ne'
    simp only [hx, if_neg hne]
  | latchDone =>
    obtain ⟨hx, hzero, -⟩ := EngStep.enabled_latchDone_iff.1 h
    simp only [hx, if_pos hzero]
  | fault => exact absurd (herr.symm.trans (EngStep.enabled_fault_iff.1 h).1) Bool.false_ne_true

/-- Settles O44: each of the three steps asks for no pending error and LATCH_TICK does not look at it; without one the enabled step
is the one that is due. -/
theorem pendingErrorComesFirst : Obligations.PendingErrorComesFirst := by
  refine ⟨fun s herr => ?_, fun s e e' herr he he' => ?_, fun _ _ => EngStep.run_of_not_enabled,
    fun _ _ => DmaStep.run_of_not_enabled⟩
  · simp [EngStep.enabled, herr]
  · exact Option.some.inj ((State.dueEngStep_of_enabled herr he).symm.trans (State.dueEngStep_of_enabled herr he'))

/-! ## START -/

theorem State.deliver_of_read {i : BitVec 32} {v : Sample} (hexists : s.elementExists s.dmaSrc.toNat i.toNat = true)
    (hread : Mem.read (s.buffer s.dmaSrc.toNat).data i.toNat = some v) :
    s.deliver i = .next { s with pwmDuty := v, wave := s.wave ++ [v], dmaIdx := i + 1#32 } := by
  simp only [State.deliver, hexists, State.sample_eq_of_read hread, if_true]

/-- Settles O38: START's delivery is the channel's, of element 0, which exists and has been written. -/
theorem startDeliversTheFirstSample : Obligations.StartDeliversTheFirstSample := by
  intro s
  refine ⟨EngStep.enabled_start_iff, fun hx herr hlen => ?_, fun v hx herr hlen hc hsrc hcap hread => ?_⟩
  · exact (perform_eng_of_enabled (EngStep.enabled_start_iff.2 ⟨hx, herr⟩)).trans (if_pos hlen)
  · have hexists : s.elementExists s.dmaSrc.toNat 0 = true := by simp [State.elementExists, hc, hsrc, hcap]
    rw [perform_eng_of_enabled (EngStep.enabled_start_iff.2 ⟨hx, herr⟩)]
    exact (if_neg hlen).trans (State.deliver_of_read hexists hread)

/-! ## COMPLETE and LATCH_TICK -/

/-- Settles O39: an enabled COMPLETE has its effect, whatever else the state holds. -/
theorem completeForcesTheLineLow : Obligations.CompleteForcesTheLineLow :=
  fun _ => ⟨EngStep.enabled_complete_iff.trans and_assoc,
    fun hx htc herr => perform_eng_of_enabled (EngStep.enabled_complete_iff.2 ⟨⟨hx, htc⟩, herr⟩)⟩

/-- Settles O40: the trailer of a legal CFG outlasts the latch time, and the invariant keeps the countdown at 0. -/
theorem latchResidualIsZero : Obligations.LatchResidualIsZero := by
  refine ⟨fun s t hl he ht => ?_, fun s h => h.latchTick_disabled⟩
  obtain ⟨-, herr⟩ := EngStep.enabled_complete_iff.1 he
  rw [perform_eng_of_enabled he] at ht
  cases ht
  have hzero := hl.residualTicks_eq_zero
  refine ⟨hzero, ?_, EngStep.enabled_latchDone_iff.2 ⟨rfl, hzero, herr⟩⟩
  simp [EngStep.enabled, hzero]

/-- Settles O41: a countdown above 0 does not wrap. -/
theorem latchTickCountsDown : Obligations.LatchTickCountsDown := by
  refine fun s => ⟨EngStep.enabled_latchTick_iff, fun hx hpos => ?_⟩
  refine ⟨_, perform_eng_of_enabled (EngStep.enabled_latchTick_iff.2 ⟨hx, hpos⟩), ?_, rfl⟩
  exact BitVec.toNat_sub_of_le (BitVec.le_def.2 hpos)

/-! ## LATCH_DONE and FAULT -/

/-- A write of an owner is an update of the two buffer fields. -/
theorem State.setOwner_eq_with (s : State) (k : Nat) (o : Owner) :
    s.setOwner k o = { s with sb0 := (s.setOwner k o).sb0, sb1 := (s.setOwner k o).sb1 } := by
  obtain ⟨x0, x1, he⟩ := s.setBuffer_eq_with k { s.buffer k with owner := o }
  rw [State.setOwner, he]

theorem State.buffer_setOwner_other (s : State) {k b : Nat} (o : Owner) (hk : k < 2) (hb : b < 2) (hne : b ≠ k) :
    (s.setOwner k o).buffer b = s.buffer b := s.buffer_setBuffer_other _ hk hb hne

/-- Settles O42: LATCH_DONE writes one owner, that of the buffer in flight, and four registers. -/
theorem latchDoneReturnsTheBuffer : Obligations.LatchDoneReturnsTheBuffer := by
  refine fun s => ⟨EngStep.enabled_latchDone_iff, fun hx hzero herr => ?_⟩
  refine ⟨_, perform_eng_of_enabled (EngStep.enabled_latchDone_iff.2 ⟨hx, hzero, herr⟩), rfl, rfl, rfl, rfl, rfl,
    s.buffer_setOwner_same _ _, fun b hb hne => s.buffer_setOwner_other _ s.inflightH.isLt hb hne, ?_⟩
  exact congrArg (fun u : State => { u with inflightValid := false, pwmRun := false, done := true, txState := .idle })
    (s.setOwner_eq_with _ _)

theorem State.enterFaulted_eq_with (s : State) :
    s.enterFaulted = { s with
      sb0 := s.enterFaulted.sb0, sb1 := s.enterFaulted.sb1, txState := .faulted, errPend := false, tcPend := false,
      dmaEn := false, pwmRun := false, pwmDuty := 0#16, inflightValid := false, latchCnt := 0#32 } := by
  unfold State.enterFaulted
  split
  · rw [s.setOwner_eq_with]
  · rfl

theorem State.buffer_enterFaulted_of_inflight (s : State) (hv : s.inflightValid = true) (b : Nat) :
    s.enterFaulted.buffer b = (s.setOwner s.inflightH.toNat .unusable).buffer b := by
  rw [State.buffer_enterFaulted, if_pos hv]

theorem State.buffer_enterFaulted_of_no_buffer (s : State) (hv : s.inflightValid = false) (b : Nat) :
    s.enterFaulted.buffer b = s.buffer b := by
  rw [State.buffer_enterFaulted, hv]
  rfl

theorem perform_fault (hc : s.cfg.configured = true) (herr : s.errPend = true) :
    perform (.eng .fault) s = .next s.enterFaulted := perform_eng_of_enabled (EngStep.enabled_fault_iff.2 ⟨herr, hc⟩)

section
variable (hc : s.cfg.configured = true) (hx : s.txState = .faulted)
include hc hx

theorem exec_arm_of_faulted (k : Nat) : exec (.arm k) s = .next (s.respond .errHwFault 0#3) :=
  exec_arm_of_handoverError hc (congrArg TxState.handoverError hx) k

theorem exec_send_of_faulted (v : Variant) (n : Nat) : exec (.send v n) s = .next (s.respond .errHwFault 0#3) :=
  exec_send_of_handoverError hc (congrArg TxState.handoverError hx) v n

end

/-- Settles O43: FAULT leaves `State.enterFaulted`, which writes one owner where a buffer is in flight and none else, and ARM and SEND
look at `TX_STATE` first. -/
theorem faultMarksTheBufferUnusable : Obligations.FaultMarksTheBufferUnusable := by
  refine fun s => ⟨EngStep.enabled_fault_iff, State.faultPin_iff, fun hc herr => ?_⟩
  have hcf : s.enterFaulted.cfg.configured = true := s.enterFaulted_cfg ▸ hc
  have hx := s.enterFaulted_txState
  refine ⟨_, perform_fault hc herr, hx, s.enterFaulted_errPend, s.enterFaulted_tcPend, s.enterFaulted_dmaEn,
    s.enterFaulted_pwmRun, s.enterFaulted_pwmDuty, s.enterFaulted_inflightValid, s.enterFaulted_latchCnt,
    fun hv => ⟨?_, ?_⟩, fun hv => ?_, ?_, State.faultPin_iff.2 hx, exec_arm_of_faulted hcf hx, exec_send_of_faulted hcf hx⟩
  · rw [s.buffer_enterFaulted_of_inflight hv, State.buffer_setOwner_same]
  · intro b hb hne
    rw [s.buffer_enterFaulted_of_inflight hv, s.buffer_setOwner_other _ s.inflightH.isLt hb hne]
  · exact ⟨s.buffer_enterFaulted_of_no_buffer hv 0, s.buffer_enterFaulted_of_no_buffer hv 1⟩
  · simpa using s.enterFaulted_eq_with

/-! ## The return from `Faulted` -/

theorem State.firstWritable_forceIdle (s : State) : s.forceIdle.firstWritable = some 0 :=
  State.firstWritable_eq_some.2 ⟨s.forceIdle.cfg.nbuf_pos, rfl, fun b hb => absurd hb b.not_lt_zero⟩

/-- After RESET every command finds buffer 0 writable, so a SEND whose frame fits is accepted (43_tx_commands.md R200). -/
theorem exec_send_after_reset (hc : s.cfg.configured = true) {v : Variant} {n : Nat} (hn : n ≤ s.cfg.capPix.toNat)
    (hv : v = .rgbw ↔ s.cfg.chCount = 4#3) :
    exec (.send v n) (s.forceIdle.respond .ok 0#3) =
      .next ((((s.forceIdle.respond .ok 0#3).prepareFrame n 0).armBuffer 0).respond .ok 0#3) :=
  exec_send_of_no_error (s := s.forceIdle.respond .ok 0#3) hc rfl s.firstWritable_forceIdle
    (encodeError_eq_none.2 ⟨s.cfg.frameLen_le_sbCap hn, hv⟩)

/-- Settles O35: FAULT leaves a configured core in `Faulted`, where SEND and ARM are refused, and RESET leaves it in `Idle` with buffer
0 writable. -/
theorem faultRefusesSendUntilReset : Obligations.FaultRefusesSendUntilReset := by
  intro s f v n k hc herr hn hv hf
  rw [perform_fault hc herr] at hf
  cases hf
  have hcf : s.enterFaulted.cfg.configured = true := s.enterFaulted_cfg ▸ hc
  have hx := s.enterFaulted_txState
  exact ⟨State.faultPin_iff.2 hx, exec_send_of_faulted hcf hx v n, exec_arm_of_faulted hcf hx k, _, _,
    exec_reset_of_configured hcf, rfl,
    exec_send_after_reset hcf (s.enterFaulted_cfg ▸ hn) (s.enterFaulted_cfg ▸ hv), rfl, rfl, fun _ => State.faultPin_iff⟩

end Sys2Proof.Machine
end

section
/-! SUPPORT. A transfer from the hand-over of its buffer to `Idle`: the states it passes through, the moves it has left, and what each
move does to it (44_engine_steps.md R210 to R219, 45_dma_pwm_agent.md R231 to R237). -/

namespace Sys2Proof.Machine

variable {s t u : State} {m : Move}

/-! ## A step of the core's own -/

/-- The move is a step of ENG or of DMA, not ERR_RAISE, and it is enabled. -/
def Move.progressEnabled (m : Move) (s : State) : Bool :=
  match m with
  | .eng e => e.enabled s
  | .dma d => decide (d ≠ .errRaise) && d.enabled s
  | .command _ => false
  | .pixwr _ _ => false
  | .sbrd _ _ => false
  | .drive _ => false
  | .lookup _ => false
  | .rst => false

theorem Move.progressEnabled_offer (m m' : Move) (s : State) :
    m.progressEnabled (s.offer m').takeMove = m.progressEnabled s := by
  cases m with
  | eng e => exact e.enabled_offer s m'
  | dma d => exact congrArg (decide (d ≠ .errRaise) && ·) (d.enabled_offer s m')
  | command | pixwr | sbrd | drive | lookup | rst => rfl

theorem Move.intervenes_offer (m m' : Move) (s : State) :
    m.intervenes (s.offer m').takeMove = m.intervenes s := rfl

theorem DmaStep.enabled_tcRaise_iff :
    DmaStep.enabled .tcRaise s = true ↔ s.dmaEn = true ∧ s.dmaIdx = s.dmaLen ∧ s.tcPend = false := by
  simp [DmaStep.enabled, and_assoc]

/-- Weak fairness of ENG and of DMA, as one statement about the core's own steps. -/
theorem weaklyFair_progressEnabled {move : Nat → Move} {st : Nat → State} (hE : EngFair move st) (hD : DmaFair move st)
    (m : Move) : WeaklyFair move st m m.progressEnabled := by
  intro k hen
  have hk := hen k (Nat.le_refl k)
  cases m with
  | eng e => exact hE e k hen
  | dma d =>
    have hne : d ≠ .errRaise := of_decide_eq_true (Bool.and_eq_true_iff.1 hk).1
    exact hD d hne k fun j hj => (Bool.and_eq_true_iff.1 (hen j hj)).2
  | command | pixwr | sbrd | drive | lookup | rst => cases hk

/-! ## The moves a transfer has left -/

/-- The steps from here to `Idle` (44_engine_steps.md R210 to R215, 45_dma_pwm_agent.md R231, R232). -/
def State.remaining (s : State) : List Move :=
  match s.txState with
  | .idle => []
  | .arming => transferSchedule s.dmaLen.toNat
  | .transferring =>
    match s.tcPend with
    | true => [.eng .complete, .eng .latchDone]
    | false =>
      List.replicate (s.dmaLen.toNat - s.dmaIdx.toNat) (.dma .beat) ++
        [.dma .tcRaise, .eng .complete, .eng .latchDone]
  | .latching => [.eng .latchDone]
  | .faulted => []

theorem State.remaining_of_arming (hx : s.txState = .arming) : s.remaining = transferSchedule s.dmaLen.toNat := by
  rw [State.remaining, hx]

theorem State.remaining_of_idle (hx : s.txState = .idle) : s.remaining = [] := by
  rw [State.remaining, hx]

/-! ## The states of a transfer -/

/-- `s` is on the way of the transfer that was handed over in `u`: that buffer is in flight, as it was then, and `WAVE` is longer by
the elements the channel has fetched. -/
structure State.Carries (s u : State) : Prop where
  inv : s.Inv
  noError : s.errPend = false
  busy : s.inflightValid = true
  handle : s.inflightH = u.inflightH
  buffer : s.buffer u.inflightH.toNat = u.buffer u.inflightH.toNat
  wave : s.wave.map some = u.wave.map some ++
    (List.range s.dmaIdx.toNat).map (Mem.read (u.buffer u.inflightH.toNat).data)

/-- `s` is at the end of the transfer that was handed over in `u`, with the whole buffer on `WAVE`. -/
structure State.Finished (s u : State) : Prop where
  idle : s.txState = .idle
  done : s.done = true
  quiescent : s.quiescent = true
  owner : s.owner u.inflightH.toNat = .writable
  wave : s.wave.map some = u.wave.map some ++
    (List.range (u.sbLen u.inflightH.toNat).toNat).map (Mem.read (u.buffer u.inflightH.toNat).data)

theorem State.Inv.carries_self (h : u.Inv) (herr : u.errPend = false) (hx : u.txState = .arming) : u.Carries u where
  inv := h
  noError := herr
  busy := h.owns.trans (congrArg TxState.ownsBuffer hx)
  handle := rfl
  buffer := rfl
  wave := by
    obtain ⟨-, -, hidx⟩ := h.arming hx
    simp [hidx]

theorem State.Inv.quiescent_of_idle (h : s.Inv) (hx : s.txState = .idle) (herr : s.errPend = false) :
    s.quiescent = true := by
  obtain ⟨hen, -⟩ := h.quiet (.inl hx)
  simp [State.quiescent, EngStep.enabled, DmaStep.enabled, hx, herr, hen]

theorem State.Inv.offer (h : s.Inv) (m : Move) : (s.offer m).Inv :=
  h.interface s.ports s.rsp s.sbData [m] s.moves

namespace State.Carries

theorem takeMove (h : s.Carries u) : s.takeMove.Carries u := { h with inv := h.inv.takeMove }

theorem offer (h : s.Carries u) (m : Move) : (s.offer m).Carries u :=
  { h with inv := h.inv.offer m }

theorem owner (h : s.Carries u) : s.owner u.inflightH.toNat = .inflight := h.handle ▸ h.inv.owner_inflightH h.busy

theorem txState_cases (h : s.Carries u) :
    s.txState = .arming ∨ s.txState = .transferring ∨ s.txState = .latching := by
  have howns := h.inv.owns.symm.trans h.busy
  cases hx : s.txState with
  | idle | faulted => rw [hx] at howns; cases howns
  | arming => exact .inl rfl
  | transferring => exact .inr (.inl rfl)
  | latching => exact .inr (.inr rfl)

theorem txState_ne_idle (h : s.Carries u) : s.txState ≠ .idle := by
  rcases h.txState_cases with hx | hx | hx <;> rw [hx] <;> decide

theorem configured (h : s.Carries u) : s.cfg.configured = true := h.inv.configured_of_txState h.txState_ne_idle

/-- The channel was given the length of the buffer handed over. -/
theorem dmaLen (h : s.Carries u) : s.dmaLen = u.sbLen u.inflightH.toNat := by
  obtain ⟨-, -, -, hlen⟩ := h.inv.inflight h.busy
  rw [hlen, h.handle]
  exact congrArg SampleBuffer.len h.buffer

/-- What the channel fetches next is the buffer's next element. -/
theorem wave_deliver (h : s.Carries u) {i : Nat} (hidx : s.dmaIdx.toNat = i) (hi : i < s.dmaLen.toNat) :
    (s.wave ++ [s.sample s.dmaSrc.toNat i]).map some = u.wave.map some ++
      (List.range (i + 1)).map (Mem.read (u.buffer u.inflightH.toNat).data) := by
  have hread := h.inv.read_inflight h.busy hi
  rw [h.handle, h.buffer] at hread
  rw [List.map_append, h.wave, hidx, List.range_succ, List.map_append, List.append_assoc]
  simp [hread]

/-! ## Which step is enabled -/

/-- A transfer never waits for the host: one of the core's own steps is enabled. -/
theorem exists_progressEnabled (h : s.Carries u) : ∃ m : Move, m.progressEnabled s = true := by
  rcases h.txState_cases with hx | hx | hx
  · exact ⟨.eng .start, EngStep.enabled_start_iff.2 ⟨hx, h.noError⟩⟩
  · obtain ⟨hen, hrun⟩ := h.inv.transferring hx
    cases htc : s.tcPend with
    | true => exact ⟨.eng .complete, EngStep.enabled_complete_iff.2 ⟨⟨hx, htc⟩, h.noError⟩⟩
    | false =>
      rcases h.inv.indexBound.lt_or_eq with hlt | heq
      · exact ⟨.dma .beat, DmaStep.enabled_beat_iff.2 ⟨⟨hen, hrun⟩, hlt⟩⟩
      · have hidx : s.dmaIdx = s.dmaLen := BitVec.eq_of_toNat_eq heq
        exact ⟨.dma .tcRaise, DmaStep.enabled_tcRaise_iff.2 ⟨hen, hidx, htc⟩⟩
  · exact ⟨.eng .latchDone, EngStep.enabled_latchDone_iff.2 ⟨hx, h.inv.countdown, h.noError⟩⟩

/-! ## What a move does to a transfer -/

theorem start (h : s.Carries u) (he : EngStep.enabled .start s = true) (hlen : s.dmaLen ≠ 0#32) :
    State.Carries { s with
      dmaEn := true
      pwmRun := true
      txState := .transferring
      pwmDuty := s.sample s.dmaSrc.toNat 0
      wave := s.wave ++ [s.sample s.dmaSrc.toNat 0]
      dmaIdx := 1#32 } u := by
  obtain ⟨-, -, hidx⟩ := h.inv.arming (EngStep.enabled_start_iff.1 he).1
  exact { h with
    inv := h.inv.start he hlen
    wave := h.wave_deliver (congrArg BitVec.toNat hidx) (s.dmaLen_pos hlen) }

theorem beat (h : s.Carries u) (hd : DmaStep.enabled .beat s = true) :
    State.Carries { s with
      pwmDuty := s.sample s.dmaSrc.toNat s.dmaIdx.toNat
      wave := s.wave ++ [s.sample s.dmaSrc.toNat s.dmaIdx.toNat]
      dmaIdx := s.dmaIdx + 1#32 } u := by
  obtain ⟨-, hlt⟩ := DmaStep.enabled_beat_iff.1 hd
  exact { h with
    inv := h.inv.beat hd
    wave := (h.wave_deliver rfl hlt).trans (by rw [s.dmaIdx_succ_toNat hlt]) }

theorem finished_latchDone (h : s.Carries u) (he : EngStep.enabled .latchDone s = true) :
    State.Finished { s.setOwner s.inflightH.toNat .writable with
      inflightValid := false, pwmRun := false, done := true, txState := .idle } u where
  idle := rfl
  done := rfl
  quiescent := (h.inv.latchDone he).quiescent_of_idle rfl ((s.setOwner_errPend _ _).trans h.noError)
  owner := by
    rw [← h.handle]
    exact (s.owner_setOwner .writable s.inflightH.isLt s.inflightH.isLt).trans (if_pos rfl)
  wave := by
    obtain ⟨-, -, -, hidx⟩ := h.inv.latching (EngStep.enabled_latchDone_iff.1 he).1
    rw [← h.dmaLen, ← hidx]
    exact (congrArg _ (s.setOwner_wave _ _)).trans h.wave

end State.Carries

/-! ## What is left after a step -/

/-- An enabled step of the core's own is the first of those left, and makes them one less. -/
theorem State.Carries.progress (h : s.Carries u) (hp : m.progressEnabled s = true) (ht : perform m s = .next t) :
    s.remaining = m :: t.remaining ∧ (t.Carries u ∨ t.Finished u) := by
  cases perform_moveEffect ht with
  | command | illegal | pixwr | sbrd | drive | lookup | rst | errRaise => cases hp
  | engDisabled he => rw [Move.progressEnabled, he] at hp; cases hp
  | dmaDisabled hd => rw [Move.progressEnabled, hd, Bool.and_false] at hp; cases hp
  | latchTick he => rw [h.inv.latchTick_disabled] at he; cases he
  | fault he =>
    rw [EngStep.enabled_fault_iff, h.noError] at he
    cases he.1
  | startEmpty he hlen =>
    obtain ⟨hx, -⟩ := EngStep.enabled_start_iff.1 he
    have htc := h.inv.tcPend_eq_false (hx ▸ by decide)
    obtain ⟨-, -, hidx⟩ := h.inv.arming hx
    refine ⟨?_, .inl { h with inv := h.inv.startEmpty he }⟩
    rw [State.remaining_of_arming hx, htc, hlen, hidx]
    rfl
  | start he hlen =>
    obtain ⟨hx, -⟩ := EngStep.enabled_start_iff.1 he
    have htc := h.inv.tcPend_eq_false (hx ▸ by decide)
    refine ⟨?_, .inl (h.start he hlen)⟩
    rw [State.remaining_of_arming hx, htc]
    rfl
  | beat hd =>
    obtain ⟨⟨hen, -⟩, hlt⟩ := DmaStep.enabled_beat_iff.1 hd
    have hx := h.inv.transferring_of_dmaEn hen
    have htc : s.tcPend = false := by
      by_contra htc
      obtain ⟨-, hidx⟩ := h.inv.completion (Bool.eq_true_of_not_eq_false htc)
      exact hlt.ne (congrArg BitVec.toNat hidx)
    have hleft : s.dmaLen.toNat - s.dmaIdx.toNat = s.dmaLen.toNat - (s.dmaIdx + 1#32).toNat + 1 := by
      have := s.dmaIdx_succ_toNat hlt
      omega
    refine ⟨?_, .inl (h.beat hd)⟩
    rw [State.remaining, hx, htc, hleft]
    rfl
  | tcRaise hd =>
    obtain ⟨hen, hidx, htc⟩ := DmaStep.enabled_tcRaise_iff.1 hd
    have hx := h.inv.transferring_of_dmaEn hen
    refine ⟨?_, .inl { h with inv := h.inv.tcRaise hd }⟩
    rw [State.remaining, hx, htc, hidx, Nat.sub_self]
    rfl
  | complete he =>
    obtain ⟨⟨hx, htc⟩, -⟩ := EngStep.enabled_complete_iff.1 he
    refine ⟨?_, .inl { h with inv := h.inv.complete he }⟩
    rw [State.remaining, hx, htc]
    rfl
  | latchDone he =>
    obtain ⟨hx, -⟩ := EngStep.enabled_latchDone_iff.1 he
    refine ⟨?_, .inr (h.finished_latchDone he)⟩
    rw [State.remaining, hx]
    rfl

/-- What is enabled is the first of the moves left, and nothing else. -/
theorem State.Carries.progressEnabled_iff (h : s.Carries u) :
    m.progressEnabled s = true ↔ s.remaining.head? = some m := by
  have first : ∀ m' : Move, m'.progressEnabled s = true → s.remaining.head? = some m' := fun m' he => by
    obtain ⟨t, ht⟩ := h.inv.isNext_perform m'
    rw [(h.progress he ht).1, List.head?_cons]
  refine ⟨first m, fun hm => ?_⟩
  obtain ⟨m', he⟩ := h.exists_progressEnabled
  obtain rfl : m' = m := Option.some.inj ((first m' he).symm.trans hm)
  exact he

/-- A move that neither intervenes nor advances the transfer leaves it where it is. -/
theorem State.Carries.other (h : s.Carries u) (hi : m.intervenes s = false) (he : m.progressEnabled s = false)
    (ht : perform m s = .next t) : t.Carries u ∧ t.remaining = s.remaining := by
  rcases Move.isHost_or_isProgress hi with hm | hm
  · obtain ⟨hbuf, hframe⟩ :=
      perform_host_during_transfer h.configured h.txState_ne_idle u.inflightH.isLt h.owner hm hi ht
    have hinv := (perform_moveEffect ht).inv h.inv
    rw [hframe] at hinv hbuf ⊢
    exact ⟨{ h with inv := hinv, buffer := hbuf.trans h.buffer }, rfl⟩
  · have hstay : perform m s = .next s := by
      cases m with
      | eng e => exact EngStep.run_of_not_enabled he
      | dma d =>
        refine DmaStep.run_of_not_enabled ?_
        simpa [Move.progressEnabled, of_decide_eq_true hm] using he
      | command | pixwr | sbrd | drive | lookup | rst => cases hm
    obtain rfl : s = t := by injection hstay.symm.trans ht
    exact ⟨h, rfl⟩

end Sys2Proof.Machine
end

section
/-! SUPPORT. An accepted ARM or SEND comes to its end: in every fair run that nothing cuts short, and along the queue of its own steps
(44_engine_steps.md R219, 45_dma_pwm_agent.md R234, R237). -/

namespace Sys2Proof.Machine

variable {s t u : State}

/-! ## The hand-over -/

/-- An ARM or a SEND that answers `OK` starts a transfer, and touches neither `ERR_PEND` nor `WAVE`. -/
theorem CommandEffect.handover {i : Instr} (h : CommandEffect s i t) (hi : (∃ k, i = .arm k) ∨ ∃ v n, i = .send v n)
    (hok : t.rsp = some ⟨.ok, 0#3⟩) : t.txState = .arming ∧ t.errPend = s.errPend ∧ t.wave = s.wave := by
  cases h with
  | refused hst => cases hok; exact absurd rfl hst
  | arm | send => simp
  | new | prepare | state | cancelIdle | cancelLatching | reset => simp at hi

/-! ## Fair runs -/

section
variable {move : Nat → Move} {st : Nat → State} {k : Nat}

/-- From step `k` on nothing intervenes before step `n`, where a move cuts the transfer short or the transfer is at its end. -/
structure EndsAt (move : Nat → Move) (st : Nat → State) (u : State) (k n : Nat) : Prop where
  from_le : k ≤ n
  undisturbed : ∀ j, k ≤ j → j < n → (st j).txState ≠ .idle ∧ (move j).intervenes (st j) = false
  outcome : ((st n).txState ≠ .idle ∧ (move n).intervenes (st n) = true) ∨ (st n).Finished u

theorem EndsAt.of_later {k' n : Nat} (h : EndsAt move st u k' n) (hle : k ≤ k')
    (hbefore : ∀ j, k ≤ j → j < k' → (st j).txState ≠ .idle ∧ (move j).intervenes (st j) = false) :
    EndsAt move st u k n where
  from_le := hle.trans h.from_le
  undisturbed j hj hjn := (Nat.lt_or_ge j k').elim (hbefore j hj) fun hge => h.undisturbed j hge hjn
  outcome := h.outcome

variable (hrun : IsRun move st)
include hrun

/-- While no move intervenes or advances the transfer, it stays where it is. -/
theorem IsRun.carries_while_quiet (h : (st k).Carries u) {j : Nat} (hkj : k ≤ j)
    (hquiet : ∀ i, k ≤ i → i < j →
      (move i).intervenes (st i) = false ∧ (move i).progressEnabled (st i) = false) :
    (st j).Carries u ∧ (st j).remaining = (st k).remaining := by
  induction j, hkj using Nat.le_induction with
  | base => exact ⟨h, rfl⟩
  | succ j hkj ih =>
    obtain ⟨hc, hrem⟩ := ih fun i hi hij => hquiet i hi (hij.trans j.lt_succ_self)
    obtain ⟨hi, hp⟩ := hquiet j hkj j.lt_succ_self
    obtain ⟨hc', hrem'⟩ := (hc.offer (move j)).takeMove.other ((Move.intervenes_offer _ _ _).trans hi)
      ((Move.progressEnabled_offer _ _ _).trans hp) (hrun j)
    exact ⟨hc', hrem'.trans hrem⟩

variable (hE : EngFair move st) (hD : DmaFair move st)
include hE hD

/-- Fairness: the step that is enabled would otherwise stay enabled for ever. -/
theorem IsRun.exists_intervenes_or_progress (h : (st k).Carries u) :
    ∃ j, k ≤ j ∧ ((move j).intervenes (st j) = true ∨ (move j).progressEnabled (st j) = true) := by
  by_contra hnone
  push Not at hnone
  have hstay : ∀ j, k ≤ j → (st j).Carries u ∧ (st j).remaining = (st k).remaining := fun j hj =>
    hrun.carries_while_quiet h hj fun i hi _ => by simpa using hnone i hi
  obtain ⟨m, hm⟩ := h.exists_progressEnabled
  have hen : ∀ j, k ≤ j → m.progressEnabled (st j) = true := fun j hj => by
    obtain ⟨hc, hrem⟩ := hstay j hj
    rwa [hc.progressEnabled_iff, hrem, ← h.progressEnabled_iff]
  obtain ⟨j, hj, rfl⟩ := weaklyFair_progressEnabled hE hD m k hen
  exact (hnone j hj).2 (hen j hj)

/-- The first move that intervenes or advances the transfer finds it where it was. -/
theorem IsRun.exists_first_intervenes_or_progress (h : (st k).Carries u) :
    ∃ j, k ≤ j ∧ ((move j).intervenes (st j) = true ∨ (move j).progressEnabled (st j) = true) ∧
      (∀ i, k ≤ i → i < j → (st i).txState ≠ .idle ∧ (move i).intervenes (st i) = false) ∧
      (st j).Carries u ∧ (st j).remaining = (st k).remaining := by
  classical
  have hex := hrun.exists_intervenes_or_progress hE hD h
  obtain ⟨hkj, hj⟩ := Nat.find_spec hex
  have hquiet : ∀ i, k ≤ i → i < Nat.find hex →
      (move i).intervenes (st i) = false ∧ (move i).progressEnabled (st i) = false := fun i hi hij => by
    simpa [hi] using Nat.find_min hex hij
  refine ⟨_, hkj, hj, fun i hi hij => ⟨?_, (hquiet i hi hij).1⟩, hrun.carries_while_quiet h hkj hquiet⟩
  exact (hrun.carries_while_quiet h hi fun l hl hli => hquiet l hl (hli.trans hij)).1.txState_ne_idle

/-- By induction on the steps left: each is made at last, or a move intervenes. -/
theorem IsRun.exists_endsAt (h : (st k).Carries u) : ∃ n, EndsAt move st u k n := by
  induction hl : (st k).remaining generalizing k with
  | nil =>
    obtain ⟨m, hm⟩ := h.exists_progressEnabled
    rw [h.progressEnabled_iff, hl] at hm
    cases hm
  | cons m l ih =>
    obtain ⟨j, hkj, hj, hbefore, hc, hrem⟩ := hrun.exists_first_intervenes_or_progress hE hD h
    cases hi : (move j).intervenes (st j) with
    | true => exact ⟨j, hkj, hbefore, .inl ⟨hc.txState_ne_idle, hi⟩⟩
    | false =>
      have hp : (move j).progressEnabled (st j) = true := hj.resolve_left (by simp [hi])
      obtain ⟨hleft, hnext⟩ := (hc.offer (move j)).takeMove.progress
        ((Move.progressEnabled_offer _ _ _).trans hp) (hrun j)
      have hbefore' : ∀ i, k ≤ i → i < j + 1 → (st i).txState ≠ .idle ∧ (move i).intervenes (st i) = false :=
        fun i hki hij => (Nat.lt_succ_iff_lt_or_eq.1 hij).elim (hbefore i hki)
          fun heq => heq ▸ ⟨hc.txState_ne_idle, hi⟩
      have hlater : ∃ n, EndsAt move st u (j + 1) n := by
        rcases hnext with hc' | hfin
        · refine ih hc' ?_
          have hcons : (st j).remaining = move j :: (st (j + 1)).remaining := hleft
          rw [hrem, hl] at hcons
          exact (List.cons.inj hcons).2.symm
        · exact ⟨j + 1, Nat.le_refl _, fun i hi hlt => absurd hi hlt.not_ge, .inr hfin⟩
      obtain ⟨n, hn⟩ := hlater
      exact ⟨n, hn.of_later (hkj.trans j.le_succ) hbefore'⟩

end

/-! ## The queue of the transfer's own steps -/

theorem MoveEffect.inbox {m : Move} (h : MoveEffect s m t) : t.inbox = s.inbox := by
  cases h with
  | command _ he => cases he <;> simp
  | latchDone => exact s.setOwner_inbox _ _
  | fault => exact s.enterFaulted_inbox
  | _ => rfl

theorem core_run_succ (n : Nat) (h : step s = .next t) :
    Host.Core.run core (n + 1) s = Host.Core.run core n t := by
  have hcore : core.step s = .next t := h
  simp only [Host.Core.run, hcore]

/-- Along a queue that begins with the steps left the transfer comes to its end, one step each. -/
theorem State.Carries.run_remaining (h : s.Carries u) {rest : List Move} (hq : s.inbox = s.remaining ++ rest) :
    ∃ t, Host.Core.run core s.remaining.length s = .next t ∧ t.Finished u ∧ t.inbox = rest := by
  induction hl : s.remaining generalizing s with
  | nil =>
    obtain ⟨m, hm⟩ := h.exists_progressEnabled
    rw [h.progressEnabled_iff, hl] at hm
    cases hm
  | cons m l ih =>
    rw [hl, List.cons_append] at hq
    obtain ⟨t, ht⟩ := h.takeMove.inv.isNext_perform m
    have hstep : step s = .next t := by rw [step, State.nextMove_cons hq, ht]
    have hp : m.progressEnabled s.takeMove = true :=
      h.takeMove.progressEnabled_iff.2 (by rw [show s.takeMove.remaining = m :: l from hl, List.head?_cons])
    obtain ⟨hleft, hnext⟩ := h.takeMove.progress hp ht
    obtain rfl : l = t.remaining := (List.cons.inj (hl.symm.trans hleft)).2
    have hinbox : t.inbox = t.remaining ++ rest := by
      rw [(perform_moveEffect ht).inbox, State.takeMove_inbox, hq, List.tail_cons]
    rw [List.length_cons, core_run_succ _ hstep]
    rcases hnext with hc | hfin
    · exact ih hc hinbox rfl
    · rw [State.remaining_of_idle hfin.idle] at hinbox ⊢
      exact ⟨t, rfl, hfin, hinbox⟩

/-- The elements of a buffer that PREPARE or SEND wrote, read one by one, are the frame. -/
theorem CfgRegs.Legal.map_read_prepareFrame (h : s.cfg.Legal) (n w : Nat) :
    (List.range (s.cfg.frameLen n)).map (Mem.read ((s.prepareFrame n w).buffer w).data) =
      (s.cfg.frame (s.pixelBuffer n)).map some := by
  refine List.ext_getElem? fun i => ?_
  have hlen := h.frame_length (s.pixelBuffer n)
  rw [State.pixelBuffer_length] at hlen
  by_cases hi : i < s.cfg.frameLen n
  · simp [hi, hlen, Mem.read_overlay]
  · simp [hi, hlen]

/-! ## The queue of a SEND -/

/-- The state an accepted SEND leaves (43_tx_commands.md R186). -/
abbrev State.afterSend (s : State) (n w : Nat) : State := ((s.prepareFrame n w).armBuffer w).respond .ok 0#3

section
variable {n w : Nat} (hl : s.cfg.Legal) (hn : n ≤ s.cfg.capPix.toNat)
include hl hn

theorem State.remaining_afterSend (w : Nat) : (s.afterSend n w).remaining = transferSchedule (s.cfg.frameLen n) := by
  rw [State.remaining_of_arming rfl, State.respond_dmaLen, State.armBuffer_dmaLen, State.sbLen_prepareFrame,
    hl.frameLen_toNat hn]

/-- The transfer of a SEND's buffer appends the frame of the pixels it read. -/
theorem State.Finished.owner_and_wave_of_send (hw : w < 2) (h : t.Finished (s.afterSend n w)) :
    t.owner w = .writable ∧ t.wave = s.wave ++ s.cfg.frame (s.pixelBuffer n) := by
  obtain ⟨-, -, -, howner, hwave⟩ := h
  have hh : (s.afterSend n w).inflightH.toNat = w := toNat_bufferIndex hw
  rw [hh] at howner hwave
  refine ⟨howner, List.map_injective_iff.2 (Option.some_injective _) ?_⟩
  rw [hwave, State.sbLen_respond, State.sbLen_armBuffer, State.sbLen_prepareFrame, hl.frameLen_toNat hn,
    State.buffer_respond, State.data_armBuffer, hl.map_read_prepareFrame, List.map_append]
  simp

end

/-- A SEND at the head of the queue is decoded and performed in one step. -/
theorem step_queued_send {v : Variant} {n w : Nat} {rest : List Move} (hn : n < 65536)
    (hq : s.inbox = .command (encode (.send v n)) :: rest)
    (hexec : exec (.send v n) s.takeMove = .next (s.takeMove.afterSend n w)) :
    step s = .next (s.takeMove.afterSend n w) := by
  have hdecode := decodeOfEncodeIsTheCommand (.send v n) (decide_eq_true hn)
  rw [step, State.nextMove_cons hq, perform_command_of_ok hdecode, hexec]

/-- Settles O60: the accepted command hands over a buffer, from there the transfer is at its end after the steps it has left, and
fairness or the queue makes them. -/
theorem sentFrameReachesTheWire : Obligations.SentFrameReachesTheWire := by
  refine ⟨fun move st k w i hrun hE hD hinv herr hmove hd hi hok => ?_,
    fun s v n w rest hinv hc hx herr hlt ho hleast hn hv hq => ?_⟩
  · have hexec := hrun k
    rw [hmove, step_offer, perform_command_of_ok hd] at hexec
    have heff := exec_commandEffect hexec
    obtain ⟨hx, herr', hwave⟩ := heff.handover hi hok
    have hcarries := (heff.inv (hinv.offer _).takeMove).carries_self (herr'.trans herr) hx
    obtain ⟨n, hle, hbefore, hend⟩ := hrun.exists_endsAt hE hD hcarries
    refine ⟨n, hle, hbefore, hend.imp_right fun hfin => ⟨hfin.idle, hfin.done, hfin.quiescent, hfin.owner, ?_⟩⟩
    exact hfin.wave.trans (by rw [hwave]; rfl)
  · have hl := hinv.legal hc
    have hw : s.takeMove.firstWritable = some w := State.firstWritable_eq_some.2 ⟨hlt, ho, hleast⟩
    have he : s.cfg.encodeError v n = none := encodeError_eq_none.2 ⟨s.cfg.frameLen_le_sbCap hn, hv⟩
    have hexec := exec_send_of_no_error (s := s.takeMove) hc hx hw he
    have hstep := step_queued_send (hn.trans_lt s.cfg.capPix.isLt) hq hexec
    have hcarries := ((exec_commandEffect hexec).inv hinv.takeMove).carries_self (by simpa using herr) rfl
    have hrem : (s.takeMove.afterSend n w).remaining = transferSchedule (s.cfg.frameLen n) :=
      State.remaining_afterSend (s := s.takeMove) hl hn w
    obtain ⟨t, hrun, hfin, hinbox⟩ := hcarries.run_remaining (rest := rest) (by simp [hrem, hq])
    obtain ⟨howner, hwave⟩ :=
      State.Finished.owner_and_wave_of_send (s := s.takeMove) hl hn (State.firstWritable_lt_two hw) hfin
    rw [hrem] at hrun
    exact ⟨t, (core_run_succ _ hstep).trans hrun, hfin.idle, hfin.done, howner, hinbox, hwave⟩

end Sys2Proof.Machine
end

section
/-! SUPPORT. The steps of DMA: the state an enabled one leaves, and what each of them changes (45_dma_pwm_agent.md R231 to R233). -/

namespace Sys2Proof.Machine

variable {s : State}

theorem DmaStep.enabled_errRaise_iff :
    DmaStep.enabled .errRaise s = true ↔ s.cfg.configured = true ∧ s.errPend = false := by
  simp [DmaStep.enabled]

theorem perform_dma_of_enabled {d : DmaStep} (h : d.enabled s = true) : perform (.dma d) s = d.effect s := if_pos h

/-- Settles O46: an enabled TC_RAISE or ERR_RAISE has its effect, one pending bit. -/
theorem signalsAreLatched : Obligations.SignalsAreLatched :=
  fun _ => ⟨DmaStep.enabled_tcRaise_iff, DmaStep.enabled_errRaise_iff,
    fun hen hidx htc => perform_dma_of_enabled (DmaStep.enabled_tcRaise_iff.2 ⟨hen, hidx, htc⟩),
    fun hc herr => perform_dma_of_enabled (DmaStep.enabled_errRaise_iff.2 ⟨hc, herr⟩)⟩

/-- Settles O45: the channel is on in `Transferring` only, BEAT's delivery is of the element at `DMA_IDX`, and an index below
`DMA_LEN` does not wrap. -/
theorem beatDeliversTheNextSample : Obligations.BeatDeliversTheNextSample := by
  refine ⟨fun _ => DmaStep.enabled_beat_iff.trans and_assoc, fun s h hd => ?_,
    fun s v hen hrun hlt hc hsrc hcap hread => ?_⟩
  · obtain ⟨⟨hen, -⟩, -⟩ := DmaStep.enabled_beat_iff.1 hd
    exact h.transferring_of_dmaEn hen
  · have hexists : s.elementExists s.dmaSrc.toNat s.dmaIdx.toNat = true := by
      simp [State.elementExists, hc, hsrc, hcap]
    have hbeat := perform_dma_of_enabled (DmaStep.enabled_beat_iff.2 ⟨⟨hen, hrun⟩, hlt⟩)
    exact ⟨_, hbeat.trans (State.deliver_of_read hexists hread), rfl, rfl, s.dmaIdx_succ_toNat hlt, rfl⟩

end Sys2Proof.Machine
end

section
/-! SUPPORT. The line at one tick, the ticks of one period and those of a frame (45_dma_pwm_agent.md R235 to R237). -/

namespace Sys2Proof.Machine

/-! ## The line at one tick -/

section
variable {s : State}

theorem State.ledOut_eq_false (h : s.pwmRun = false ∨ s.pwmDuty = 0#16) (k : Nat) : s.ledOut k = false := by
  rcases h with h | h <;> simp [State.ledOut, h]

/-- A duty of 0 is no exception: no tick is below it (45_dma_pwm_agent.md R235, R236). -/
theorem State.ledOut_of_running (hrun : s.pwmRun = true) (hopen : s.lineOpen = false) (k : Nat) :
    s.ledOut k = decide (k < s.pwmDuty.toNat) := by
  by_cases hzero : s.pwmDuty = 0#16
  · rw [State.ledOut_eq_false (.inr hzero), hzero]
    rfl
  · simp [State.ledOut, hrun, hopen, hzero]

/-- Outside `Transferring` the timer is stopped, but in `Latching`, where the duty is 0 (10_state.md R29). -/
theorem State.Inv.timer_stopped_or_duty_zero (h : s.Inv) (hx : s.txState ≠ .transferring) :
    s.pwmRun = false ∨ s.pwmDuty = 0#16 := by
  cases hs : s.txState with
  | idle => exact .inl (h.quiet (.inl hs)).2
  | arming =>
    obtain ⟨-, hrun, -⟩ := h.arming hs
    exact .inl hrun
  | transferring => exact absurd hs hx
  | latching =>
    obtain ⟨-, -, hduty, -⟩ := h.latching hs
    exact .inr hduty
  | faulted => exact .inl (h.quiet (.inr hs)).2

/-- A running timer has left `Idle`, so a NEW has succeeded. -/
theorem State.Inv.configured_of_pwmRun (h : s.Inv) (hrun : s.pwmRun = true) : s.cfg.configured = true :=
  h.configured_of_txState fun hx => absurd ((h.quiet (.inl hx)).2.symm.trans hrun) Bool.false_ne_true

end

/-- Settles O57: RESET and hardware reset stop the timer, and the invariant leaves it stopped or the duty 0 outside `Transferring`. -/
theorem lineIsLowOutsideTransferring : Obligations.LineIsLowOutsideTransferring := by
  refine ⟨fun s k h => State.ledOut_eq_false h k,
    fun s k h hx => State.ledOut_eq_false (h.timer_stopped_or_duty_zero hx) k, fun s t k hc ht => ?_, fun s t k ht => ?_⟩
  · rw [exec_reset_of_configured hc] at ht
    cases ht
    exact State.ledOut_eq_false (.inl s.forceIdle_pwmRun) k
  · cases ht
    exact State.ledOut_eq_false (.inl s.hardReset_pwmRun) k

/-! ## The ticks of one period -/

section
variable {period : Nat} {d : Sample}

@[simp] theorem slotTicks_zero (period : Nat) : slotTicks period 0#16 = List.replicate period false := by
  simp [slotTicks]

theorem slotTicks_length (h : d.toNat ≤ period) : (slotTicks period d).length = period := by
  simp [slotTicks, Nat.add_sub_of_le h]

theorem slotTicks_getElem? (h : d.toNat ≤ period) {k : Nat} (hk : k < period) :
    (slotTicks period d)[k]? = some (decide (k < d.toNat)) := by
  by_cases hhigh : k < d.toNat
  · rw [slotTicks, List.getElem?_append_left (by simpa using hhigh), List.getElem?_replicate, if_pos hhigh,
      decide_eq_true hhigh]
  · rw [slotTicks, List.getElem?_append_right (by simpa using hhigh), List.getElem?_replicate, List.length_replicate,
      if_pos (by omega), decide_eq_false hhigh]

end

/-- What the core puts in `PWM_DUTY` leaves a low part in every period (41_encoder.md R145). -/
theorem CfgRegs.Legal.toNat_lt_bitPeriod {c : CfgRegs} (h : c.Legal) {v : Sample} (hv : c.IsDuty v) :
    v.toNat < c.bitPeriod.toNat := by
  rcases hv with rfl | rfl | rfl
  · exact h.period_pos
  · exact h.t0BelowT1.trans h.t1BelowPeriod
  · exact h.t1BelowPeriod

/-- Settles O58: the duty is a duty value of a legal CFG, so below the period, which is `BIT_PERIOD`. -/
theorem eachPeriodIsHighThenLow : Obligations.EachPeriodIsHighThenLow := by
  intro s k h hrun hopen
  have hled := State.ledOut_of_running hrun hopen k
  have hlow : s.pwmDuty.toNat < s.pwmPeriod.toNat :=
    h.period ▸ (h.legal (h.configured_of_pwmRun hrun)).toNat_lt_bitPeriod h.duty
  exact ⟨by rw [hled, decide_eq_true_iff], hlow, slotTicks_length hlow.le,
    fun hk => by rw [slotTicks_getElem? hlow.le hk, hled]⟩

/-! ## The ticks of a frame -/

theorem lineTicks_append (period : Nat) (xs ys : List Sample) :
    lineTicks period (xs ++ ys) = lineTicks period xs ++ lineTicks period ys := List.flatMap_append

theorem lineTicks_length {period : Nat} {xs : List Sample} (h : ∀ v ∈ xs, v.toNat ≤ period) :
    (lineTicks period xs).length = xs.length * period := by
  rw [lineTicks, List.length_flatMap, List.map_congr_left fun v hv => slotTicks_length (h v hv), List.map_const',
    List.sum_replicate, smul_eq_mul]

/-- The trailer keeps the line low for `TRAILER_TICKS` (10_state.md R24). -/
theorem CfgRegs.lineTicks_trailer (c : CfgRegs) :
    lineTicks c.bitPeriod.toNat c.trailer = List.replicate c.trailerTicks false := by
  rw [lineTicks, CfgRegs.trailer, List.flatMap_replicate, slotTicks_zero, List.flatten_replicate_replicate,
    CfgRegs.trailerTicks]

namespace CfgRegs.Legal

variable {c : CfgRegs} (h : c.Legal) (pixels : List Pixel)
include h

theorem toNat_le_bitPeriod_of_mem_frame : ∀ v ∈ c.frame pixels, v.toNat ≤ c.bitPeriod.toNat :=
  fun _ hv => (h.toNat_lt_bitPeriod (CfgRegs.isDuty_of_mem_frame hv)).le

theorem lineTicks_bits_length :
    (lineTicks c.bitPeriod.toNat (pixels.flatMap c.pixelSamples)).length =
      pixels.length * c.bpp * c.bitPeriod.toNat := by
  have hle : ∀ v ∈ pixels.flatMap c.pixelSamples, v.toNat ≤ c.bitPeriod.toNat :=
    fun v hv => h.toNat_le_bitPeriod_of_mem_frame pixels v (List.mem_append_left _ hv)
  rw [lineTicks_length hle, h.bits_length]

theorem lineTicks_frame_length :
    (lineTicks c.bitPeriod.toNat (c.frame pixels)).length = c.frameLen pixels.length * c.bitPeriod.toNat := by
  rw [lineTicks_length (h.toNat_le_bitPeriod_of_mem_frame pixels), h.frame_length]

end CfgRegs.Legal

/-- Settles O59: a frame is its bit samples and its trailer, every sample fills one period, and the trailer's ticks are low. -/
theorem frameOnTheLineEndsWithTheLatchTime : Obligations.FrameOnTheLineEndsWithTheLatchTime :=
  fun c pixels h => ⟨_, rfl, by rw [CfgRegs.frame, lineTicks_append, c.lineTicks_trailer],
    h.lineTicks_bits_length pixels, h.lineTicks_frame_length pixels, h.resetTicks_le_trailerTicks⟩

end Sys2Proof.Machine
end

section
/-! SUPPORT. The errors of the commands, the synchronous exceptions (60_exceptions.md R250). -/

namespace Sys2Proof.Machine

/-- Every effect but a refusal answers `OK`. -/
theorem CommandEffect.eq_respond_of_error {s t : State} {i : Instr} {r : Response} (h : CommandEffect s i t)
    (hr : t.rsp = some r) (herr : r.status ≠ .ok) : t = s.respond r.status 0#3 := by
  cases h with
  | refused => cases hr; rfl
  | _ => cases hr; exact absurd rfl herr

/-- Settles O10: a command that does not answer `OK` was refused, and a refusal is the response with value 0 and nothing else. -/
theorem errorsChangeNoState : Obligations.ErrorsChangeNoState :=
  fun _ _ _ _ hexec hr herr => (exec_commandEffect hexec).eq_respond_of_error hr herr

end Sys2Proof.Machine
end

section
/-! SUPPORT. The state after hardware reset (70_reset_and_hazards.md R290, R291). -/

namespace Sys2Proof.Machine

theorem State.buffer_reset (b : Nat) : State.reset.buffer b = SampleBuffer.reset := by
  unfold State.buffer
  split <;> rfl

/-- The parts of a buffer are those of `SampleBuffer.reset`, which lists no element. -/
theorem State.reset_buffer_parts (b : Nat) :
    State.reset.owner b = .writable ∧ State.reset.sbLen b = 0#32 ∧
      ∀ i, Mem.read (State.reset.buffer b).data i = none := by
  rw [State.owner, State.sbLen, State.buffer_reset]
  exact ⟨rfl, rfl, fun _ => rfl⟩

/-- Settles O13: the registers are the fields of `State.reset`, the memories list no element, and the stopped timer
keeps the line low. -/
theorem resetValues : Obligations.ResetValues :=
  ⟨rfl, rfl, rfl, rfl, rfl, rfl, rfl, rfl, rfl, rfl, rfl, rfl, rfl, rfl, rfl, rfl, State.reset_buffer_parts, rfl, rfl, rfl,
    rfl, rfl, rfl, rfl, rfl, rfl, fun _ => rfl, rfl, State.ledOut_eq_false (.inl rfl), fun _ => rfl⟩

end Sys2Proof.Machine
end

section
/-! SUPPORT. Which states are quiescent, runs from a quiescent state, and runs of a transfer that no completion and no error
ever ends (70_reset_and_hazards.md R301, R310). -/

namespace Sys2Proof.Machine

variable {s t : State} {m : Move} {ms prog : List Move}

/-! ## The quiescent states -/

theorem State.quiescent_eq_false_iff (s : State) :
    s.quiescent = false ↔
      (∃ e : EngStep, e.enabled s = true) ∨ ∃ d : DmaStep, d ≠ .errRaise ∧ d.enabled s = true := by
  rw [← Bool.not_eq_true, s.quiescent_iff, not_and_or]
  simp only [not_forall, Bool.not_eq_false, exists_prop]

theorem EngStep.not_quiescent {e : EngStep} (he : e.enabled s = true) : ¬s.quiescent = true :=
  (Bool.not_eq_true _).mpr (s.quiescent_eq_false_iff.2 (.inl ⟨e, he⟩))

theorem DmaStep.not_quiescent {d : DmaStep} (hne : d ≠ .errRaise) (hd : d.enabled s = true) : ¬s.quiescent = true :=
  (Bool.not_eq_true _).mpr (s.quiescent_eq_false_iff.2 (.inr ⟨d, hne, hd⟩))

/-- In `Idle` and in `Faulted` the channel is off, so nothing but a pending error can be acted on. -/
theorem State.Inv.quiescent_of_rest (h : s.Inv) (hx : s.txState = .idle ∨ s.txState = .faulted)
    (herr : s.errPend = false) : s.quiescent = true := by
  obtain ⟨hen, -⟩ := h.quiet hx
  rcases hx with hx | hx
  · exact h.quiescent_of_idle hx herr
  · simp [State.quiescent, EngStep.enabled, DmaStep.enabled, hx, herr, hen]

/-- With no error pending every state of a transfer has its step: START, BEAT, TC_RAISE or COMPLETE, and LATCH_DONE. -/
theorem State.Inv.rest_of_quiescent (h : s.Inv) (hq : s.quiescent = true) (herr : s.errPend = false) :
    s.txState = .idle ∨ s.txState = .faulted := by
  cases hx : s.txState with
  | idle => exact .inl rfl
  | faulted => exact .inr rfl
  | arming => exact absurd hq (EngStep.not_quiescent (EngStep.enabled_start_iff.2 ⟨hx, herr⟩))
  | latching => exact absurd hq (EngStep.not_quiescent (EngStep.enabled_latchDone_iff.2 ⟨hx, h.countdown, herr⟩))
  | transferring =>
    obtain ⟨hen, hrun⟩ := h.transferring hx
    cases htc : s.tcPend with
    | true => exact absurd hq (EngStep.not_quiescent (EngStep.enabled_complete_iff.2 ⟨⟨hx, htc⟩, herr⟩))
    | false =>
      rcases h.indexBound.lt_or_eq with hlt | heq
      · have hbeat := DmaStep.enabled_beat_iff.2 ⟨⟨hen, hrun⟩, hlt⟩
        exact absurd hq (DmaStep.not_quiescent (by decide) hbeat)
      · have htcRaise := DmaStep.enabled_tcRaise_iff.2 ⟨hen, BitVec.eq_of_toNat_eq heq, htc⟩
        exact absurd hq (DmaStep.not_quiescent (by decide) htcRaise)

theorem State.errPend_of_quiescent (hc : s.cfg.configured = true) (hq : s.quiescent = true) : s.errPend = false :=
  Bool.eq_false_iff.2 fun herr => EngStep.not_quiescent (EngStep.enabled_fault_iff.2 ⟨herr, hc⟩) hq

theorem State.Inv.errPend_of_unconfigured (h : s.Inv) (hc : s.cfg.configured = false) : s.errPend = false :=
  congrArg State.errPend (h.unconfigured hc)

theorem State.Inv.quiescent_iff (h : s.Inv) :
    s.quiescent = true ↔ s.cfg.configured = false ∨
      ((s.txState = .idle ∨ s.txState = .faulted) ∧ s.errPend = false) := by
  constructor
  · intro hq
    cases hc : s.cfg.configured with
    | false => exact .inl rfl
    | true =>
      have herr := State.errPend_of_quiescent hc hq
      exact .inr ⟨h.rest_of_quiescent hq herr, herr⟩
  · rintro (hc | ⟨hx, herr⟩)
    · exact h.quiescent_of_rest (.inl (h.txState_of_unconfigured hc)) (h.errPend_of_unconfigured hc)
    · exact h.quiescent_of_rest hx herr

/-! ## The end of a run -/

theorem State.Inv.of_runMoves (h : s.Inv) (hrun : runMoves ms s = .next t) : t.Inv :=
  runMoves_induct everyStepKeepsTheInvariant (fun _ m hs => hs.offer m) h hrun

theorem State.Inv.runEnded_iff (h : s.Inv) :
    RunEnded prog ms s t ↔ ms.filter Move.isHost = prog ∧ runMoves ms s = .next t ∧
      (t.cfg.configured = false ∨ ((t.txState = .idle ∨ t.txState = .faulted) ∧ t.errPend = false)) :=
  and_congr_right fun _ => and_congr_right fun hrun => (h.of_runMoves hrun).quiescent_iff

/-! ## Runs from a quiescent state -/

/-- The core's own steps take moves off the queue and leave no output, and that is all they do. -/
theorem runMoves_of_quiescent (hq : s.quiescent = true) (hms : ∀ m ∈ ms, m.isProgress = true) :
    ∃ t, runMoves ms s = .next t ∧ t.quiescent = true ∧
      t = { s with inbox := t.inbox, moves := t.moves, rsp := t.rsp, sbData := t.sbData } := by
  induction ms generalizing s with
  | nil => exact ⟨s, rfl, hq, rfl⟩
  | cons m ms ih =>
    obtain ⟨hm, hms⟩ := List.forall_mem_cons.1 hms
    obtain ⟨t, hrun, ht, hframe⟩ := ih ((s.quiescent_offer m).trans hq) hms
    exact ⟨t, (runMoves_cons ms (step_of_quiescent hq hm)).trans hrun, ht, hframe⟩

theorem trace_of_quiescent (hq : s.quiescent = true) (hms : ∀ m ∈ ms, m.isProgress = true) :
    trace ms s = List.replicate ms.length ⟨none, s.done, decide (s.txState = .faulted), none, s.wave⟩ := by
  induction ms generalizing s with
  | nil => rfl
  | cons m ms ih =>
    obtain ⟨hm, hms⟩ := List.forall_mem_cons.1 hms
    rw [trace_cons ms (step_of_quiescent hq hm), ih ((s.quiescent_offer m).trans hq) hms]
    rfl

/-! ## A transfer that gets no completion (70_reset_and_hazards.md R301) -/

/-- In `Transferring` with neither signal pending, where only the channel and the outside can move the engine on. -/
structure State.Stalled (s : State) : Prop where
  inv : s.Inv
  transferring : s.txState = .transferring
  noCompletion : s.tcPend = false
  noError : s.errPend = false

/-- No step of DMA, no RESET and no hardware reset. -/
def Move.LeavesStalled (m : Move) : Prop :=
  (∀ d, m ≠ .dma d) ∧ m ≠ .rst ∧ ∀ w, m = .command w → decode w ≠ .ok .reset

/-- A CANCEL is refused outside `Latching` (43_tx_commands.md R194). -/
theorem Move.LeavesStalled.intervenes (hm : m.LeavesStalled) (hx : s.txState ≠ .latching) : m.intervenes s = false := by
  obtain ⟨hdma, hrst, hreset⟩ := hm
  cases m with
  | command w =>
    cases hd : decode w with
    | error => simp [Move.intervenes, hd]
    | ok i =>
      cases i with
      | reset => exact absurd hd (hreset w rfl)
      | cancel => simp [Move.intervenes, hd, hx]
      | new | prepare | arm | send | state => simp [Move.intervenes, hd]
  | dma d => exact absurd rfl (hdma d)
  | rst => exact absurd rfl hrst
  | pixwr | sbrd | drive | lookup | eng => rfl

namespace State.Stalled

theorem takeMove_offer (h : s.Stalled) (m : Move) : (s.offer m).takeMove.Stalled :=
  { h with inv := (h.inv.offer m).takeMove }

theorem txState_ne (h : s.Stalled) {x : TxState} (hx : x ≠ .transferring) : s.txState ≠ x :=
  fun hs => hx (hs.symm.trans h.transferring)

theorem configured (h : s.Stalled) : s.cfg.configured = true := h.inv.configured_of_txState (h.txState_ne (by decide))

theorem not_quiescent (h : s.Stalled) : ¬s.quiescent = true := by
  rw [h.inv.quiescent_iff, h.configured, h.transferring]
  simp

theorem engStep_disabled (h : s.Stalled) (e : EngStep) : e.enabled s = false := by
  cases e <;> simp [EngStep.enabled, h.transferring, h.noCompletion, h.noError]

theorem owner_inflightH (h : s.Stalled) : s.owner s.inflightH.toNat = .inflight :=
  h.inv.owner_inflightH (h.inv.owns.trans (congrArg TxState.ownsBuffer h.transferring))

/-- The host's moves write neither `TX_STATE` nor a pending bit, and no step of ENG is enabled. -/
theorem of_perform (h : s.Stalled) (hm : m.LeavesStalled) (ht : perform m s = .next t) : t.Stalled := by
  have hi : m.intervenes s = false := hm.intervenes (h.txState_ne (by decide))
  have hinv : t.Inv := (perform_moveEffect ht).inv h.inv
  rcases Move.isHost_or_isProgress hi with hhost | hprogress
  · obtain ⟨-, hframe⟩ := perform_host_during_transfer h.configured (h.txState_ne (by decide)) s.inflightH.isLt
      h.owner_inflightH hhost hi ht
    rw [hframe] at hinv ⊢
    exact { h with inv := hinv }
  · cases m with
    | eng e =>
      cases (EngStep.run_of_not_enabled (h.engStep_disabled e)).symm.trans ht
      exact h
    | dma d =>
      obtain ⟨hdma, -, -⟩ := hm
      exact absurd rfl (hdma d)
    | command | pixwr | sbrd | drive | lookup | rst => cases hprogress

theorem exists_runMoves (h : s.Stalled) (hms : ∀ m ∈ ms, m.LeavesStalled) :
    ∃ t, runMoves ms s = .next t ∧ t.Stalled := by
  induction ms generalizing s with
  | nil => exact ⟨s, rfl, h⟩
  | cons m ms ih =>
    obtain ⟨hm, hms⟩ := List.forall_mem_cons.1 hms
    obtain ⟨u, hu⟩ := noStepStops (s.offer m) (h.inv.offer m)
    obtain ⟨t, hrun, ht⟩ := ih ((h.takeMove_offer m).of_perform hm hu) hms
    exact ⟨t, (runMoves_cons ms hu).trans hrun, ht⟩

theorem not_runEnded (h : t.Stalled) : ¬RunEnded prog ms s t := fun ⟨_, _, hq⟩ => h.not_quiescent hq

end State.Stalled

/-- Settles O52: the invariant leaves a configured core outside `Idle` and `Faulted`, or with an error pending, an
enabled step; disabled steps change nothing; a stalled transfer is kept by every move that is none of DMA, RESET or
hardware reset. -/
theorem quiescentStates : Obligations.QuiescentStates := by
  refine ⟨fun s h => h.quiescent_iff, State.quiescent_eq_false_iff, fun prog ms s t h => ⟨h.runEnded_iff, Iff.rfl⟩,
    fun s ms hq hms => ⟨runMoves_of_quiescent hq hms, trace_of_quiescent hq hms⟩, fun s ms h hx htc herr hms => ?_⟩
  obtain ⟨t, hrun, ht⟩ := State.Stalled.exists_runMoves ⟨h, hx, htc, herr⟩ hms
  exact ⟨t, hrun, ht.transferring, fun _ => ht.not_runEnded⟩

end Sys2Proof.Machine
end
